-- ==== Sys2Proof/Word.lean ====
section
/-! DEFINITION. The bit-vector widths of the machine (00_scope.md R5 and R7: XLEN 32, VLEN 128, elements of 8, 16
and 32 bits). Bit 0 of the manual is the MOST significant bit (R6); BitVec counts from the least significant one. -/

namespace Sys2Proof

/-- One byte of memory, or a byte element (R7). -/
abbrev Byte := BitVec 8

/-- A halfword element (R7). -/
abbrev Half := BitVec 16

/-- A general register, an address, an instruction, a word element (R5, R7). -/
abbrev Word := BitVec 32

/-- The contents of a vector register (R24). -/
abbrev Vec := BitVec 128

end Sys2Proof
end

