-- ==== Sys2Proof/Machine/Flags.lean ====
section
/-! DEFINITION. Integer readings of bit vectors (00_scope.md R8), saturation with its flag (R9), and the four bits a
recording compare writes into CR6 (45_int_compare.md R200, 49_float.md R332). -/

namespace Sys2Proof.Machine

/-- `uint(x)` (R8). -/
def uint {n : Nat} (x : BitVec n) : Int := (x.toNat : Int)

/-- `sint(x)` (R8). -/
def sint {n : Nat} (x : BitVec n) : Int := x.toInt

/-- `trunc_n(z)` (R8). -/
def trunc (n : Nat) (z : Int) : BitVec n := BitVec.ofInt n z

/-- The largest signed value of `n` bits, `2^(n-1) - 1`. -/
def signedMax (n : Nat) : Int := ((2 ^ (n - 1) : Nat) : Int) - 1

/-- The least signed value of `n` bits, `-2^(n-1)`. -/
def signedMin (n : Nat) : Int := -((2 ^ (n - 1) : Nat) : Int)

/-- The largest unsigned value of `n` bits, `2^n - 1`. -/
def unsignedMax (n : Nat) : Int := ((2 ^ n : Nat) : Int) - 1

/-- `satS_n(z)`: the clamped value and whether it was clamped (R9). -/
def satS (n : Nat) (z : Int) : BitVec n × Bool :=
  if signedMax n < z then (trunc n (signedMax n), true)
  else if z < signedMin n then (trunc n (signedMin n), true)
  else (trunc n z, false)

/-- `satU_n(z)`: the clamped value and whether it was clamped (R9). -/
def satU (n : Nat) (z : Int) : BitVec n × Bool :=
  if unsignedMax n < z then (BitVec.allOnes n, true)
  else if z < 0 then (0, true)
  else (trunc n z, false)

/-- CR6 after a recording compare with the result `v`: all true, 0, none true, 0 (R200). -/
def cr6OfCompare (v : Vec) : BitVec 4 :=
  BitVec.ofBool (v == BitVec.allOnes 128) ++ 0#1 ++ BitVec.ofBool (v == 0) ++ 0#1

/-- CR6 after `vcmpbfp.` with the result `v`: 0, 0, all in bounds, 0 (R332). -/
def cr6OfBounds (v : Vec) : BitVec 4 := 0#2 ++ BitVec.ofBool (v == 0) ++ 0#1

end Sys2Proof.Machine
end

