-- ==== Sys2Proof/Config.lean ====
section
/-! DEFINITION. What the manual leaves open as a VALUE (93_implementation_defined.md U1, U2, U7, U8): constants with no
body, so that nothing proved about the model depends on which value an implementation produces. -/

namespace Sys2Proof

/-- The floating-point operations that return a quiet NaN (49_float.md R323), as the argument of the open parameter
NaNPayload. -/
inductive FpOp where
  | add | sub | madd | nmsub | max | min | roundMinus | roundNearest | roundPlus | roundZero
  | expEstimate | logEstimate | recipEstimate | rsqrtEstimate
  deriving DecidableEq, Repr

/-- The value the n-th use of Undef supplies (00_scope.md R5, U1, U2). Free: log entry 11. -/
opaque Config.undef128 : Nat → Vec

/-- The word from which the open parameter NaNPayload is made (00_scope.md R5, 49_float.md R323): of an operation
and its operands in the order vA, vB, vC. The model forces it to be a quiet NaN. Free: log entry 10. -/
opaque Config.nanPayload : FpOp → List Word → Word

/-- What the implementation offers as the estimate of 2 to the operand (Est2Pow, R346): of the count of the
execution, the element and the operand. The model forces it inside the bound of the page. Free: log entry 12. -/
opaque Config.est2Pow : Nat → Nat → Word → Word

/-- What the implementation offers as the estimate of the base-2 logarithm (EstLog2, R347). Free: log entry 12. -/
opaque Config.estLog2 : Nat → Nat → Word → Word

/-- What the implementation offers as the reciprocal estimate (EstRecip, R348). Free: log entry 12. -/
opaque Config.estRecip : Nat → Nat → Word → Word

/-- What the implementation offers as the reciprocal square root estimate (EstRsqrt, R349). Free: log entry 12. -/
opaque Config.estRsqrt : Nat → Nat → Word → Word

end Sys2Proof
end

