-- ==== Sys2Proof/Syntax.lean ====
section
/-! DEFINITION. The syntax of the machine: one constructor per row of spec/opcode_table.json, operands in the order of
the assembler syntax (30_encoding.md R97). -/

namespace Sys2Proof

/-- The number of a vector register, a 5-bit field (R85). -/
abbrev VReg := BitVec 5

/-- The number of a general register, a 5-bit field (R85). -/
abbrev GReg := BitVec 5

/-- The 159 instructions. -/
inductive Instr where
  -- Data-stream instructions (40_data_stream.md)
  /-- R111: Data Stream Stop. -/
  | dss (strm : BitVec 2) (a : Bool)
  /-- R112: Data Stream Touch. -/
  | dst (ra rb : GReg) (strm : BitVec 2) (t : Bool)
  /-- R113: Data Stream Touch for Store. -/
  | dstst (ra rb : GReg) (strm : BitVec 2) (t : Bool)
  -- Vector loads, stores and alignment vectors (41_load_store.md)
  /-- R120: Load Vector Element Byte Indexed. -/
  | lvebx (vd : VReg) (ra rb : GReg)
  /-- R121: Load Vector Element Half Word Indexed. -/
  | lvehx (vd : VReg) (ra rb : GReg)
  /-- R122: Load Vector Element Word Indexed. -/
  | lvewx (vd : VReg) (ra rb : GReg)
  /-- R123: Load Vector for Shift Left. -/
  | lvsl (vd : VReg) (ra rb : GReg)
  /-- R124: Load Vector for Shift Right. -/
  | lvsr (vd : VReg) (ra rb : GReg)
  /-- R125: Load Vector Indexed. -/
  | lvx (vd : VReg) (ra rb : GReg)
  /-- R126: Load Vector Indexed LRU. -/
  | lvxl (vd : VReg) (ra rb : GReg)
  /-- R127: Store Vector Element Byte Indexed. -/
  | stvebx (vs : VReg) (ra rb : GReg)
  /-- R128: Store Vector Element Half Word Indexed. -/
  | stvehx (vs : VReg) (ra rb : GReg)
  /-- R129: Store Vector Element Word Indexed. -/
  | stvewx (vs : VReg) (ra rb : GReg)
  /-- R130: Store Vector Indexed. -/
  | stvx (vs : VReg) (ra rb : GReg)
  /-- R131: Store Vector Indexed LRU. -/
  | stvxl (vs : VReg) (ra rb : GReg)
  -- VSCR moves (42_vscr_move.md)
  /-- R140: Move from Vector Status and Control Register. -/
  | mfvscr (vd : VReg)
  /-- R141: Move to Vector Status and Control Register. -/
  | mtvscr (vb : VReg)
  -- Integer add and subtract (43_int_add_sub.md)
  /-- R151: Vector Add Carryout Unsigned Word. -/
  | vaddcuw (vd va vb : VReg)
  /-- R152: Vector Add Signed Byte Saturate. -/
  | vaddsbs (vd va vb : VReg)
  /-- R153: Vector Add Signed Half Word Saturate. -/
  | vaddshs (vd va vb : VReg)
  /-- R154: Vector Add Signed Word Saturate. -/
  | vaddsws (vd va vb : VReg)
  /-- R155: Vector Add Unsigned Byte Modulo. -/
  | vaddubm (vd va vb : VReg)
  /-- R156: Vector Add Unsigned Byte Saturate. -/
  | vaddubs (vd va vb : VReg)
  /-- R157: Vector Add Unsigned Half Word Modulo. -/
  | vadduhm (vd va vb : VReg)
  /-- R158: Vector Add Unsigned Half Word Saturate. -/
  | vadduhs (vd va vb : VReg)
  /-- R159: Vector Add Unsigned Word Modulo. -/
  | vadduwm (vd va vb : VReg)
  /-- R160: Vector Add Unsigned Word Saturate. -/
  | vadduws (vd va vb : VReg)
  /-- R161: Vector Subtract Carryout Unsigned Word. -/
  | vsubcuw (vd va vb : VReg)
  /-- R162: Vector Subtract Signed Byte Saturate. -/
  | vsubsbs (vd va vb : VReg)
  /-- R163: Vector Subtract Signed Half Word Saturate. -/
  | vsubshs (vd va vb : VReg)
  /-- R164: Vector Subtract Signed Word Saturate. -/
  | vsubsws (vd va vb : VReg)
  /-- R165: Vector Subtract Unsigned Byte Modulo. -/
  | vsububm (vd va vb : VReg)
  /-- R166: Vector Subtract Unsigned Byte Saturate. -/
  | vsububs (vd va vb : VReg)
  /-- R167: Vector Subtract Unsigned Half Word Modulo. -/
  | vsubuhm (vd va vb : VReg)
  /-- R168: Vector Subtract Unsigned Half Word Saturate. -/
  | vsubuhs (vd va vb : VReg)
  /-- R169: Vector Subtract Unsigned Word Modulo. -/
  | vsubuwm (vd va vb : VReg)
  /-- R170: Vector Subtract Unsigned Word Saturate. -/
  | vsubuws (vd va vb : VReg)
  -- Integer average, maximum, minimum (44_int_avg_minmax.md)
  /-- R181: Vector Average Signed Byte. -/
  | vavgsb (vd va vb : VReg)
  /-- R182: Vector Average Signed Half Word. -/
  | vavgsh (vd va vb : VReg)
  /-- R183: Vector Average Signed Word. -/
  | vavgsw (vd va vb : VReg)
  /-- R184: Vector Average Unsigned Byte. -/
  | vavgub (vd va vb : VReg)
  /-- R185: Vector Average Unsigned Half Word. -/
  | vavguh (vd va vb : VReg)
  /-- R186: Vector Average Unsigned Word. -/
  | vavguw (vd va vb : VReg)
  /-- R187: Vector Maximum Signed Byte. -/
  | vmaxsb (vd va vb : VReg)
  /-- R188: Vector Maximum Signed Half Word. -/
  | vmaxsh (vd va vb : VReg)
  /-- R189: Vector Maximum Signed Word. -/
  | vmaxsw (vd va vb : VReg)
  /-- R190: Vector Maximum Unsigned Byte. -/
  | vmaxub (vd va vb : VReg)
  /-- R191: Vector Maximum Unsigned Half Word. -/
  | vmaxuh (vd va vb : VReg)
  /-- R192: Vector Maximum Unsigned Word. -/
  | vmaxuw (vd va vb : VReg)
  /-- R193: Vector Minimum Signed Byte. -/
  | vminsb (vd va vb : VReg)
  /-- R194: Vector Minimum Signed Half Word. -/
  | vminsh (vd va vb : VReg)
  /-- R195: Vector Minimum Signed Word. -/
  | vminsw (vd va vb : VReg)
  /-- R196: Vector Minimum Unsigned Byte. -/
  | vminub (vd va vb : VReg)
  /-- R197: Vector Minimum Unsigned Half Word. -/
  | vminuh (vd va vb : VReg)
  /-- R198: Vector Minimum Unsigned Word. -/
  | vminuw (vd va vb : VReg)
  -- Integer compares; `rc` is the record bit (the mnemonic with a trailing period) (45_int_compare.md)
  /-- R201: Vector Compare Equal-to Unsigned Byte. -/
  | vcmpequb (vd va vb : VReg) (rc : Bool)
  /-- R202: Vector Compare Equal-to Unsigned Half Word. -/
  | vcmpequh (vd va vb : VReg) (rc : Bool)
  /-- R203: Vector Compare Equal-to Unsigned Word. -/
  | vcmpequw (vd va vb : VReg) (rc : Bool)
  /-- R204: Vector Compare Greater-Than Signed Byte. -/
  | vcmpgtsb (vd va vb : VReg) (rc : Bool)
  /-- R205: Vector Compare Greater-Than Signed Half Word. -/
  | vcmpgtsh (vd va vb : VReg) (rc : Bool)
  /-- R206: Vector Compare Greater-Than Signed Word. -/
  | vcmpgtsw (vd va vb : VReg) (rc : Bool)
  /-- R207: Vector Compare Greater-Than Unsigned Byte. -/
  | vcmpgtub (vd va vb : VReg) (rc : Bool)
  /-- R208: Vector Compare Greater-Than Unsigned Half Word. -/
  | vcmpgtuh (vd va vb : VReg) (rc : Bool)
  /-- R209: Vector Compare Greater-Than Unsigned Word. -/
  | vcmpgtuw (vd va vb : VReg) (rc : Bool)
  -- Integer multiply, multiply-add, multiply-sum, sum across (46_int_multiply_sum.md)
  /-- R221: Vector Multiply High and Add Signed Half Word Saturate. -/
  | vmhaddshs (vd va vb vc : VReg)
  /-- R222: Vector Multiply High Round and Add Signed Half Word Saturate. -/
  | vmhraddshs (vd va vb vc : VReg)
  /-- R223: Vector Multiply Low and Add Unsigned Half Word Modulo. -/
  | vmladduhm (vd va vb vc : VReg)
  /-- R224: Vector Multiply Sum Mixed-Sign Byte Modulo. -/
  | vmsummbm (vd va vb vc : VReg)
  /-- R225: Vector Multiply Sum Signed Half Word Modulo. -/
  | vmsumshm (vd va vb vc : VReg)
  /-- R226: Vector Multiply Sum Signed Half Word Saturate. -/
  | vmsumshs (vd va vb vc : VReg)
  /-- R227: Vector Multiply Sum Unsigned Byte Modulo. -/
  | vmsumubm (vd va vb vc : VReg)
  /-- R228: Vector Multiply Sum Unsigned Half Word Modulo. -/
  | vmsumuhm (vd va vb vc : VReg)
  /-- R229: Vector Multiply Sum Unsigned Half Word Saturate. -/
  | vmsumuhs (vd va vb vc : VReg)
  /-- R230: Vector Multiply Even Signed Byte. -/
  | vmulesb (vd va vb : VReg)
  /-- R231: Vector Multiply Even Signed Half Word. -/
  | vmulesh (vd va vb : VReg)
  /-- R232: Vector Multiply Even Unsigned Byte. -/
  | vmuleub (vd va vb : VReg)
  /-- R233: Vector Multiply Even Unsigned Half Word. -/
  | vmuleuh (vd va vb : VReg)
  /-- R234: Vector Multiply Odd Signed Byte. -/
  | vmulosb (vd va vb : VReg)
  /-- R235: Vector Multiply Odd Signed Half Word. -/
  | vmulosh (vd va vb : VReg)
  /-- R236: Vector Multiply Odd Unsigned Byte. -/
  | vmuloub (vd va vb : VReg)
  /-- R237: Vector Multiply Odd Unsigned Half Word. -/
  | vmulouh (vd va vb : VReg)
  /-- R238: Vector Sum Across Signed Word Saturate. -/
  | vsumsws (vd va vb : VReg)
  /-- R239: Vector Sum Across Partial (1/2) Signed Word Saturate. -/
  | vsum2sws (vd va vb : VReg)
  /-- R240: Vector Sum Across Partial (1/4) Signed Byte Saturate. -/
  | vsum4sbs (vd va vb : VReg)
  /-- R241: Vector Sum Across Partial (1/4) Signed Half Word Saturate. -/
  | vsum4shs (vd va vb : VReg)
  /-- R242: Vector Sum Across Partial (1/4) Unsigned Byte Saturate. -/
  | vsum4ubs (vd va vb : VReg)
  -- Logical, select, rotate, shift (47_logical_shift_rotate.md)
  /-- R251: Vector Logical AND. -/
  | vand (vd va vb : VReg)
  /-- R252: Vector Logical AND with Complement. -/
  | vandc (vd va vb : VReg)
  /-- R253: Vector Logical NOR. -/
  | vnor (vd va vb : VReg)
  /-- R254: Vector Logical OR. -/
  | vor (vd va vb : VReg)
  /-- R255: Vector Logical XOR. -/
  | vxor (vd va vb : VReg)
  /-- R256: Vector Conditional Select. -/
  | vsel (vd va vb vc : VReg)
  /-- R257: Vector Rotate Left Integer Byte. -/
  | vrlb (vd va vb : VReg)
  /-- R258: Vector Rotate Left Integer Half Word. -/
  | vrlh (vd va vb : VReg)
  /-- R259: Vector Rotate Left Integer Word. -/
  | vrlw (vd va vb : VReg)
  /-- R260: Vector Shift Left. -/
  | vsl (vd va vb : VReg)
  /-- R261: Vector Shift Left Integer Byte. -/
  | vslb (vd va vb : VReg)
  /-- R262: Vector Shift Left Double by Octet Immediate. -/
  | vsldoi (vd va vb : VReg) (shb : BitVec 4)
  /-- R263: Vector Shift Left Integer Half Word. -/
  | vslh (vd va vb : VReg)
  /-- R264: Vector Shift Left by Octet. -/
  | vslo (vd va vb : VReg)
  /-- R265: Vector Shift Left Integer Word. -/
  | vslw (vd va vb : VReg)
  /-- R266: Vector Shift Right. -/
  | vsr (vd va vb : VReg)
  /-- R267: Vector Shift Right Algebraic Byte. -/
  | vsrab (vd va vb : VReg)
  /-- R268: Vector Shift Right Algebraic Half Word. -/
  | vsrah (vd va vb : VReg)
  /-- R269: Vector Shift Right Algebraic Word. -/
  | vsraw (vd va vb : VReg)
  /-- R270: Vector Shift Right Byte. -/
  | vsrb (vd va vb : VReg)
  /-- R271: Vector Shift Right Half Word. -/
  | vsrh (vd va vb : VReg)
  /-- R272: Vector Shift Right Octet. -/
  | vsro (vd va vb : VReg)
  /-- R273: Vector Shift Right Word. -/
  | vsrw (vd va vb : VReg)
  -- Merge, permute, pack, splat, unpack (48_permute_pack.md)
  /-- R281: Vector Merge High Byte. -/
  | vmrghb (vd va vb : VReg)
  /-- R282: Vector Merge High Half Word. -/
  | vmrghh (vd va vb : VReg)
  /-- R283: Vector Merge High Word. -/
  | vmrghw (vd va vb : VReg)
  /-- R284: Vector Merge Low Byte. -/
  | vmrglb (vd va vb : VReg)
  /-- R285: Vector Merge Low Half Word. -/
  | vmrglh (vd va vb : VReg)
  /-- R286: Vector Merge Low Word. -/
  | vmrglw (vd va vb : VReg)
  /-- R287: Vector Permute. -/
  | vperm (vd va vb vc : VReg)
  /-- R288: Vector Pack Pixel32. -/
  | vpkpx (vd va vb : VReg)
  /-- R289: Vector Pack Signed Half Word Signed Saturate. -/
  | vpkshss (vd va vb : VReg)
  /-- R290: Vector Pack Signed Half Word Unsigned Saturate. -/
  | vpkshus (vd va vb : VReg)
  /-- R291: Vector Pack Signed Word Signed Saturate. -/
  | vpkswss (vd va vb : VReg)
  /-- R292: Vector Pack Signed Word Unsigned Saturate. -/
  | vpkswus (vd va vb : VReg)
  /-- R293: Vector Pack Unsigned Half Word Unsigned Modulo. -/
  | vpkuhum (vd va vb : VReg)
  /-- R294: Vector Pack Unsigned Half Word Unsigned Saturate. -/
  | vpkuhus (vd va vb : VReg)
  /-- R295: Vector Pack Unsigned Word Unsigned Modulo. -/
  | vpkuwum (vd va vb : VReg)
  /-- R296: Vector Pack Unsigned Word Unsigned Saturate. -/
  | vpkuwus (vd va vb : VReg)
  /-- R297: Vector Splat Byte. -/
  | vspltb (vd vb : VReg) (uimm : BitVec 5)
  /-- R298: Vector Splat Half Word. -/
  | vsplth (vd vb : VReg) (uimm : BitVec 5)
  /-- R299: Vector Splat Immediate Signed Byte. -/
  | vspltisb (vd : VReg) (simm : BitVec 5)
  /-- R300: Vector Splat Immediate Signed Half Word. -/
  | vspltish (vd : VReg) (simm : BitVec 5)
  /-- R301: Vector Splat Immediate Signed Word. -/
  | vspltisw (vd : VReg) (simm : BitVec 5)
  /-- R302: Vector Splat Word. -/
  | vspltw (vd vb : VReg) (uimm : BitVec 5)
  /-- R303: Vector Unpack High Pixel16. -/
  | vupkhpx (vd vb : VReg)
  /-- R304: Vector Unpack High Signed Byte. -/
  | vupkhsb (vd vb : VReg)
  /-- R305: Vector Unpack High Signed Half Word. -/
  | vupkhsh (vd vb : VReg)
  /-- R306: Vector Unpack Low Pixel16. -/
  | vupklpx (vd vb : VReg)
  /-- R307: Vector Unpack Low Signed Byte. -/
  | vupklsb (vd vb : VReg)
  /-- R308: Vector Unpack Low Signed Half Word. -/
  | vupklsh (vd vb : VReg)
  -- Floating point (49_float.md)
  /-- R326: Vector Add Floating Point. -/
  | vaddfp (vd va vb : VReg)
  /-- R327: Vector Subtract Floating Point. -/
  | vsubfp (vd va vb : VReg)
  /-- R328: Vector Multiply Add Floating Point. -/
  | vmaddfp (vd va vc vb : VReg)
  /-- R329: Vector Negative Multiply-Subtract Floating Point. -/
  | vnmsubfp (vd va vc vb : VReg)
  /-- R330: Vector Maximum Floating Point. -/
  | vmaxfp (vd va vb : VReg)
  /-- R331: Vector Minimum Floating Point. -/
  | vminfp (vd va vb : VReg)
  /-- R332: Vector Compare Bounds Floating Point. -/
  | vcmpbfp (vd va vb : VReg) (rc : Bool)
  /-- R333: Vector Compare Equal-to-Floating Point. -/
  | vcmpeqfp (vd va vb : VReg) (rc : Bool)
  /-- R334: Vector Compare Greater-Than-or-Equal-to Floating Point. -/
  | vcmpgefp (vd va vb : VReg) (rc : Bool)
  /-- R335: Vector Compare Greater-Than Floating-Point. -/
  | vcmpgtfp (vd va vb : VReg) (rc : Bool)
  /-- R336: Vector Convert from Signed Fixed-Point Word. -/
  | vcfsx (vd vb : VReg) (uimm : BitVec 5)
  /-- R337: Vector Convert from Unsigned Fixed-Point Word. -/
  | vcfux (vd vb : VReg) (uimm : BitVec 5)
  /-- R338: Vector Convert to Signed Fixed-Point Word Saturate. -/
  | vctsxs (vd vb : VReg) (uimm : BitVec 5)
  /-- R339: Vector Convert to Unsigned Fixed-Point Word Saturate. -/
  | vctuxs (vd vb : VReg) (uimm : BitVec 5)
  /-- R340: Vector Round to Floating-Point Integer toward Minus Infinity. -/
  | vrfim (vd vb : VReg)
  /-- R341: Vector Round to Floating-Point Integer Nearest. -/
  | vrfin (vd vb : VReg)
  /-- R342: Vector Round to Floating-Point Integer toward Plus Infinity. -/
  | vrfip (vd vb : VReg)
  /-- R343: Vector Round to Floating-Point Integer toward Zero. -/
  | vrfiz (vd vb : VReg)
  /-- R346: Vector 2 Raised to the Exponent Estimate Floating Point. -/
  | vexptefp (vd vb : VReg)
  /-- R347: Vector Log2 Estimate Floating Point. -/
  | vlogefp (vd vb : VReg)
  /-- R348: Vector Reciprocal Estimate Floating Point. -/
  | vrefp (vd vb : VReg)
  /-- R349: Vector Reciprocal Square Root Estimate Floating Point. -/
  | vrsqrtefp (vd vb : VReg)
  deriving DecidableEq, Repr

end Sys2Proof
end

