-- ==== Sys2Proof/WellFormed.lean ====
section
/-! DEFINITION. The operand values that the encodings admit but the spec excludes (30_encoding.md R93,
92_eei_decisions.md D6). -/

namespace Sys2Proof

/-- `vspltb` indexes the 16 bytes of a register (R297, R93). -/
def wfSpltb (uimm : BitVec 5) : Bool := decide (uimm.toNat ≤ 15)

/-- `vsplth` indexes the 8 halfwords of a register (R298, R93). -/
def wfSplth (uimm : BitVec 5) : Bool := decide (uimm.toNat ≤ 7)

/-- `vspltw` indexes the 4 words of a register (R302, R93). -/
def wfSpltw (uimm : BitVec 5) : Bool := decide (uimm.toNat ≤ 3)

/-- `dst` and `dstst` need `rA` other than 0 (R112, R113, R93). -/
def wfStream (ra : GReg) : Bool := decide (ra ≠ 0)

/-- An instruction whose operand values the spec gives a meaning. Every other operand is a register number, an
immediate or a flag that fills its field, so it has no check; the wildcard arm holds only such instructions. -/
def Instr.wf : Instr → Bool
  | .vspltb _ _ uimm => wfSpltb uimm
  | .vsplth _ _ uimm => wfSplth uimm
  | .vspltw _ _ uimm => wfSpltw uimm
  | .dst ra _ _ _ => wfStream ra
  | .dstst ra _ _ _ => wfStream ra
  | _ => true

end Sys2Proof
end

