-- ==== Sys2Proof/Decode.lean ====
section
/-! DEFINITION. From words to instructions and back: the decoder of 30_encoding.md R88 with the tables of R89 to R92 and
the refusals of R93 and R94, and the encoder from the forms of R82 to R86. -/

namespace Sys2Proof

/-- Why a word is no instruction of the spec (60_exceptions.md R406). -/
inductive DecodeReject where
  /-- The primary opcode is neither 4 nor 31 (R81, R94). Safe: the spec gives such a word no meaning. -/
  | otherPrimary
  /-- The extended opcode is not in the tables of R89 to R92 (R94). Safe. -/
  | unassigned
  /-- A field that the figure prints as zeros is not zero (R93, D5). Safe. -/
  | reservedField
  /-- A splat index past the last element, or `rA = 0` in `dst` and `dstst` (R93, D6). Safe. -/
  | excludedOperand
  /-- Fewer than four bytes (R80: every instruction is one word). Safe. -/
  | truncated
  deriving DecidableEq, Repr

/-! Fields of a word (R82 to R87). The manual's bits `p:q` are the bits `31-q` to `31-p` counted from the least
significant one. -/

/-- Bits 0:5, the primary opcode (R81). -/
def fieldPrimary (w : Word) : BitVec 6 := w.extractLsb' 26 6

/-- Bits 6:10, `vD` or `vS` (R85). -/
def fieldD (w : Word) : BitVec 5 := w.extractLsb' 21 5

/-- Bits 11:15, `vA`, `rA`, `UIMM` or `SIMM` (R85, R87). -/
def fieldA (w : Word) : BitVec 5 := w.extractLsb' 16 5

/-- Bits 16:20, `vB` or `rB` (R85). -/
def fieldB (w : Word) : BitVec 5 := w.extractLsb' 11 5

/-- Bits 21:25, `vC` (R85). -/
def fieldC (w : Word) : BitVec 5 := w.extractLsb' 6 5

/-- Bits 22:25, `SHB` (R87). -/
def fieldShb (w : Word) : BitVec 4 := w.extractLsb' 6 4

/-- Bit 21, `Rc` in the VXR form, 0 in `vsldoi` (R84, R86). -/
def fieldRc (w : Word) : Bool := w.getLsbD 10

/-- Bit 6, the flag `T` or `A` of the data-stream instructions (R82, R87). -/
def fieldFlag (w : Word) : Bool := w.getLsbD 25

/-- Bits 7:8, zeros in the data-stream instructions (R82). -/
def fieldStreamZero (w : Word) : BitVec 2 := w.extractLsb' 23 2

/-- Bits 9:10, `STRM` (R87). -/
def fieldStrm (w : Word) : BitVec 2 := w.extractLsb' 21 2

/-- Bits 21:30, the extended opcode of the X form (R82). -/
def fieldXoX (w : Word) : BitVec 10 := w.extractLsb' 1 10

/-- Bits 21:31, the extended opcode of the VX form (R83). -/
def fieldXoVX (w : Word) : BitVec 11 := w.extractLsb' 0 11

/-- Bits 22:31, the extended opcode of the VXR form (R84). -/
def fieldXoVXR (w : Word) : BitVec 10 := w.extractLsb' 0 10

/-- Bits 26:31, the extended opcode of the VA form (R86). -/
def fieldXoVA (w : Word) : BitVec 6 := w.extractLsb' 0 6

/-! Reading the operands of one form; reserved fields must be zero (R93). -/

/-- The instruction, unless the spec excludes one of its operand values (R93, D6). -/
def checkOperands (i : Instr) : Except DecodeReject Instr :=
  if i.wf then .ok i else .error .excludedOperand

/-- The instruction, if the reserved fields are zero (R93, D5). -/
def checkReserved (zero : Bool) (i : Instr) : Except DecodeReject Instr :=
  if zero then checkOperands i else .error .reservedField

/-- X form, three register fields, bit 31 zero (R82). -/
def readX (c : VReg → GReg → GReg → Instr) (w : Word) : Except DecodeReject Instr :=
  checkReserved (!w.getLsbD 0) (c (fieldD w) (fieldA w) (fieldB w))

/-- `dst` and `dstst`: flag, stream and two registers (R82, R112, R113). -/
def readStream (c : GReg → GReg → BitVec 2 → Bool → Instr) (w : Word) : Except DecodeReject Instr :=
  checkReserved (!w.getLsbD 0 && fieldStreamZero w == 0) (c (fieldA w) (fieldB w) (fieldStrm w) (fieldFlag w))

/-- `dss`: flag and stream, no registers (R82, R111). -/
def readDss (c : BitVec 2 → Bool → Instr) (w : Word) : Except DecodeReject Instr :=
  checkReserved (!w.getLsbD 0 && fieldStreamZero w == 0 && fieldA w == 0 && fieldB w == 0)
    (c (fieldStrm w) (fieldFlag w))

/-- VX form with three registers (R83). -/
def readVx (c : VReg → VReg → VReg → Instr) (w : Word) : Except DecodeReject Instr :=
  checkOperands (c (fieldD w) (fieldA w) (fieldB w))

/-- VX form with `vD` and `vB`, bits 11:15 zero (R83). -/
def readDB (c : VReg → VReg → Instr) (w : Word) : Except DecodeReject Instr :=
  checkReserved (fieldA w == 0) (c (fieldD w) (fieldB w))

/-- VX form with `vD`, `vB` and `UIMM` in bits 11:15 (R83, R87). -/
def readUimm (c : VReg → VReg → BitVec 5 → Instr) (w : Word) : Except DecodeReject Instr :=
  checkOperands (c (fieldD w) (fieldB w) (fieldA w))

/-- VX form with `vD` and `SIMM` in bits 11:15, bits 16:20 zero (R83, R87). -/
def readSimm (c : VReg → BitVec 5 → Instr) (w : Word) : Except DecodeReject Instr :=
  checkReserved (fieldB w == 0) (c (fieldD w) (fieldA w))

/-- `mfvscr`: only `vD` (R83). -/
def readOnlyD (c : VReg → Instr) (w : Word) : Except DecodeReject Instr :=
  checkReserved (fieldA w == 0 && fieldB w == 0) (c (fieldD w))

/-- `mtvscr`: only `vB` (R83). -/
def readOnlyB (c : VReg → Instr) (w : Word) : Except DecodeReject Instr :=
  checkReserved (fieldD w == 0 && fieldA w == 0) (c (fieldB w))

/-- VXR form: three registers and `Rc` (R84). -/
def readVxr (c : VReg → VReg → VReg → Bool → Instr) (w : Word) : Except DecodeReject Instr :=
  checkOperands (c (fieldD w) (fieldA w) (fieldB w) (fieldRc w))

/-- VA form: four registers (R86). -/
def readVa (c : VReg → VReg → VReg → VReg → Instr) (w : Word) : Except DecodeReject Instr :=
  checkOperands (c (fieldD w) (fieldA w) (fieldB w) (fieldC w))

/-- `vmaddfp` and `vnmsubfp`: the VA form with the operands written `vD,vA,vC,vB` (R86). -/
def readAcb (c : VReg → VReg → VReg → VReg → Instr) (w : Word) : Except DecodeReject Instr :=
  checkOperands (c (fieldD w) (fieldA w) (fieldC w) (fieldB w))

/-- `vsldoi`: bit 21 zero, bits 22:25 the shift count (R86). -/
def readShb (c : VReg → VReg → VReg → BitVec 4 → Instr) (w : Word) : Except DecodeReject Instr :=
  checkReserved (!fieldRc w) (c (fieldD w) (fieldA w) (fieldB w) (fieldShb w))

/-! The opcode tables. -/

/-- The X-form table, by bits 21:30 (R89). -/
def lookupX (xo : Nat) (w : Word) : Option (Except DecodeReject Instr) :=
  match xo with
  | 6 => some (readX .lvsl w)
  | 7 => some (readX .lvebx w)
  | 38 => some (readX .lvsr w)
  | 39 => some (readX .lvehx w)
  | 71 => some (readX .lvewx w)
  | 103 => some (readX .lvx w)
  | 135 => some (readX .stvebx w)
  | 167 => some (readX .stvehx w)
  | 199 => some (readX .stvewx w)
  | 231 => some (readX .stvx w)
  | 342 => some (readStream .dst w)
  | 359 => some (readX .lvxl w)
  | 374 => some (readStream .dstst w)
  | 487 => some (readX .stvxl w)
  | 822 => some (readDss .dss w)
  | _ => none

/-- The VX-form table, by bits 21:31 (R90). -/
def lookupVX (xo : Nat) (w : Word) : Option (Except DecodeReject Instr) :=
  match xo with
  | 0 => some (readVx .vaddubm w)
  | 2 => some (readVx .vmaxub w)
  | 4 => some (readVx .vrlb w)
  | 8 => some (readVx .vmuloub w)
  | 10 => some (readVx .vaddfp w)
  | 12 => some (readVx .vmrghb w)
  | 14 => some (readVx .vpkuhum w)
  | 64 => some (readVx .vadduhm w)
  | 66 => some (readVx .vmaxuh w)
  | 68 => some (readVx .vrlh w)
  | 72 => some (readVx .vmulouh w)
  | 74 => some (readVx .vsubfp w)
  | 76 => some (readVx .vmrghh w)
  | 78 => some (readVx .vpkuwum w)
  | 128 => some (readVx .vadduwm w)
  | 130 => some (readVx .vmaxuw w)
  | 132 => some (readVx .vrlw w)
  | 140 => some (readVx .vmrghw w)
  | 142 => some (readVx .vpkuhus w)
  | 206 => some (readVx .vpkuwus w)
  | 258 => some (readVx .vmaxsb w)
  | 260 => some (readVx .vslb w)
  | 264 => some (readVx .vmulosb w)
  | 266 => some (readDB .vrefp w)
  | 268 => some (readVx .vmrglb w)
  | 270 => some (readVx .vpkshus w)
  | 322 => some (readVx .vmaxsh w)
  | 324 => some (readVx .vslh w)
  | 328 => some (readVx .vmulosh w)
  | 330 => some (readDB .vrsqrtefp w)
  | 332 => some (readVx .vmrglh w)
  | 334 => some (readVx .vpkswus w)
  | 384 => some (readVx .vaddcuw w)
  | 386 => some (readVx .vmaxsw w)
  | 388 => some (readVx .vslw w)
  | 394 => some (readDB .vexptefp w)
  | 396 => some (readVx .vmrglw w)
  | 398 => some (readVx .vpkshss w)
  | 452 => some (readVx .vsl w)
  | 458 => some (readDB .vlogefp w)
  | 462 => some (readVx .vpkswss w)
  | 512 => some (readVx .vaddubs w)
  | 514 => some (readVx .vminub w)
  | 516 => some (readVx .vsrb w)
  | 520 => some (readVx .vmuleub w)
  | 522 => some (readDB .vrfin w)
  | 524 => some (readUimm .vspltb w)
  | 526 => some (readDB .vupkhsb w)
  | 576 => some (readVx .vadduhs w)
  | 578 => some (readVx .vminuh w)
  | 580 => some (readVx .vsrh w)
  | 584 => some (readVx .vmuleuh w)
  | 586 => some (readDB .vrfiz w)
  | 588 => some (readUimm .vsplth w)
  | 590 => some (readDB .vupkhsh w)
  | 640 => some (readVx .vadduws w)
  | 642 => some (readVx .vminuw w)
  | 644 => some (readVx .vsrw w)
  | 650 => some (readDB .vrfip w)
  | 652 => some (readUimm .vspltw w)
  | 654 => some (readDB .vupklsb w)
  | 708 => some (readVx .vsr w)
  | 714 => some (readDB .vrfim w)
  | 718 => some (readDB .vupklsh w)
  | 768 => some (readVx .vaddsbs w)
  | 770 => some (readVx .vminsb w)
  | 772 => some (readVx .vsrab w)
  | 776 => some (readVx .vmulesb w)
  | 778 => some (readUimm .vcfux w)
  | 780 => some (readSimm .vspltisb w)
  | 782 => some (readVx .vpkpx w)
  | 832 => some (readVx .vaddshs w)
  | 834 => some (readVx .vminsh w)
  | 836 => some (readVx .vsrah w)
  | 840 => some (readVx .vmulesh w)
  | 842 => some (readUimm .vcfsx w)
  | 844 => some (readSimm .vspltish w)
  | 846 => some (readDB .vupkhpx w)
  | 896 => some (readVx .vaddsws w)
  | 898 => some (readVx .vminsw w)
  | 900 => some (readVx .vsraw w)
  | 906 => some (readUimm .vctuxs w)
  | 908 => some (readSimm .vspltisw w)
  | 970 => some (readUimm .vctsxs w)
  | 974 => some (readDB .vupklpx w)
  | 1024 => some (readVx .vsububm w)
  | 1026 => some (readVx .vavgub w)
  | 1028 => some (readVx .vand w)
  | 1034 => some (readVx .vmaxfp w)
  | 1036 => some (readVx .vslo w)
  | 1088 => some (readVx .vsubuhm w)
  | 1090 => some (readVx .vavguh w)
  | 1092 => some (readVx .vandc w)
  | 1098 => some (readVx .vminfp w)
  | 1100 => some (readVx .vsro w)
  | 1152 => some (readVx .vsubuwm w)
  | 1154 => some (readVx .vavguw w)
  | 1156 => some (readVx .vor w)
  | 1220 => some (readVx .vxor w)
  | 1282 => some (readVx .vavgsb w)
  | 1284 => some (readVx .vnor w)
  | 1346 => some (readVx .vavgsh w)
  | 1408 => some (readVx .vsubcuw w)
  | 1410 => some (readVx .vavgsw w)
  | 1536 => some (readVx .vsububs w)
  | 1540 => some (readOnlyD .mfvscr w)
  | 1544 => some (readVx .vsum4ubs w)
  | 1600 => some (readVx .vsubuhs w)
  | 1604 => some (readOnlyB .mtvscr w)
  | 1608 => some (readVx .vsum4shs w)
  | 1664 => some (readVx .vsubuws w)
  | 1672 => some (readVx .vsum2sws w)
  | 1792 => some (readVx .vsubsbs w)
  | 1800 => some (readVx .vsum4sbs w)
  | 1856 => some (readVx .vsubshs w)
  | 1920 => some (readVx .vsubsws w)
  | 1928 => some (readVx .vsumsws w)
  | _ => none

/-- The VXR-form table, by bits 22:31 (R91). -/
def lookupVXR (xo : Nat) (w : Word) : Option (Except DecodeReject Instr) :=
  match xo with
  | 6 => some (readVxr .vcmpequb w)
  | 70 => some (readVxr .vcmpequh w)
  | 134 => some (readVxr .vcmpequw w)
  | 198 => some (readVxr .vcmpeqfp w)
  | 454 => some (readVxr .vcmpgefp w)
  | 518 => some (readVxr .vcmpgtub w)
  | 582 => some (readVxr .vcmpgtuh w)
  | 646 => some (readVxr .vcmpgtuw w)
  | 710 => some (readVxr .vcmpgtfp w)
  | 774 => some (readVxr .vcmpgtsb w)
  | 838 => some (readVxr .vcmpgtsh w)
  | 902 => some (readVxr .vcmpgtsw w)
  | 966 => some (readVxr .vcmpbfp w)
  | _ => none

/-- The VA-form table, by bits 26:31 (R92). -/
def lookupVA (xo : Nat) (w : Word) : Option (Except DecodeReject Instr) :=
  match xo with
  | 32 => some (readVa .vmhaddshs w)
  | 33 => some (readVa .vmhraddshs w)
  | 34 => some (readVa .vmladduhm w)
  | 36 => some (readVa .vmsumubm w)
  | 37 => some (readVa .vmsummbm w)
  | 38 => some (readVa .vmsumuhm w)
  | 39 => some (readVa .vmsumuhs w)
  | 40 => some (readVa .vmsumshm w)
  | 41 => some (readVa .vmsumshs w)
  | 42 => some (readVa .vsel w)
  | 43 => some (readVa .vperm w)
  | 44 => some (readShb .vsldoi w)
  | 46 => some (readAcb .vmaddfp w)
  | 47 => some (readAcb .vnmsubfp w)
  | _ => none

/-- A word that a table does not list is unassigned (R94, D20). -/
def orUnassigned (r : Option (Except DecodeReject Instr)) : Except DecodeReject Instr :=
  r.getD (.error .unassigned)

/-- The decoder, in the order of R88. -/
def decode (w : Word) : Except DecodeReject Instr :=
  if fieldPrimary w = 31 then orUnassigned (lookupX (fieldXoX w).toNat w)
  else if fieldPrimary w = 4 then
    if w.getLsbD 5 then orUnassigned (lookupVA (fieldXoVA w).toNat w)
    else match lookupVX (fieldXoVX w).toNat w with
      | some r => r
      | none => orUnassigned (lookupVXR (fieldXoVXR w).toNat w)
  else .error .otherPrimary

/-- A word from four bytes, the first the most significant (R80, big-endian). -/
def wordOfBytes (b0 b1 b2 b3 : Byte) : Word := b0 ++ b1 ++ b2 ++ b3

/-- The byte of a word that lies at offset `j` in big-endian memory (R52). -/
def byteOfWord (w : Word) (j : Nat) : Byte := w.extractLsb' (24 - 8 * j) 8

/-- The instruction at the front of a list of bytes in big-endian order, and the bytes after it (R80). -/
def decodeBytes : List Byte → Except DecodeReject (Instr × List Byte)
  | b0 :: b1 :: b2 :: b3 :: rest => (decode (wordOfBytes b0 b1 b2 b3)).map fun i => (i, rest)
  | _ => .error .truncated

/-- The four bytes of a word as big-endian memory holds them, lowest address first (R52, R80). -/
def bytesOfWord (w : Word) : List Byte := [byteOfWord w 0, byteOfWord w 1, byteOfWord w 2, byteOfWord w 3]

/-- The instruction that the decoder reads from the bits `w` of an opcode-table row, the bits above `nbits` zero. -/
def decodeTableWord (nbits w : Nat) : Option Instr :=
  match decodeBytes (bytesOfWord (BitVec.ofNat 32 (w % 2 ^ nbits))) with
  | .ok (i, _) => some i
  | .error _ => none

/-! The encoder. -/

/-- X form (R82). -/
def formX (d a b : BitVec 5) (xo : BitVec 10) : Word := 31#6 ++ d ++ a ++ b ++ xo ++ 0#1

/-- X form of the data-stream instructions (R82). -/
def formStream (flag : Bool) (strm : BitVec 2) (a b : BitVec 5) (xo : BitVec 10) : Word :=
  31#6 ++ BitVec.ofBool flag ++ 0#2 ++ strm ++ a ++ b ++ xo ++ 0#1

/-- VX form (R83). -/
def formVX (d a b : BitVec 5) (xo : BitVec 11) : Word := 4#6 ++ d ++ a ++ b ++ xo

/-- VXR form (R84). -/
def formVXR (d a b : BitVec 5) (rc : Bool) (xo : BitVec 10) : Word := 4#6 ++ d ++ a ++ b ++ BitVec.ofBool rc ++ xo

/-- VA form (R86). -/
def formVA (d a b c : BitVec 5) (xo : BitVec 6) : Word := 4#6 ++ d ++ a ++ b ++ c ++ xo

/-- The word of an instruction (R82 to R92). -/
def encode : Instr → Word
  -- Data-stream instructions
  | .dss strm a => formStream a strm 0 0 822
  | .dst ra rb strm t => formStream t strm ra rb 342
  | .dstst ra rb strm t => formStream t strm ra rb 374
  -- Vector loads, stores and alignment vectors
  | .lvebx vd ra rb => formX vd ra rb 7
  | .lvehx vd ra rb => formX vd ra rb 39
  | .lvewx vd ra rb => formX vd ra rb 71
  | .lvsl vd ra rb => formX vd ra rb 6
  | .lvsr vd ra rb => formX vd ra rb 38
  | .lvx vd ra rb => formX vd ra rb 103
  | .lvxl vd ra rb => formX vd ra rb 359
  | .stvebx vs ra rb => formX vs ra rb 135
  | .stvehx vs ra rb => formX vs ra rb 167
  | .stvewx vs ra rb => formX vs ra rb 199
  | .stvx vs ra rb => formX vs ra rb 231
  | .stvxl vs ra rb => formX vs ra rb 487
  -- VSCR moves
  | .mfvscr vd => formVX vd 0 0 1540
  | .mtvscr vb => formVX 0 0 vb 1604
  -- Integer add and subtract
  | .vaddcuw vd va vb => formVX vd va vb 384
  | .vaddsbs vd va vb => formVX vd va vb 768
  | .vaddshs vd va vb => formVX vd va vb 832
  | .vaddsws vd va vb => formVX vd va vb 896
  | .vaddubm vd va vb => formVX vd va vb 0
  | .vaddubs vd va vb => formVX vd va vb 512
  | .vadduhm vd va vb => formVX vd va vb 64
  | .vadduhs vd va vb => formVX vd va vb 576
  | .vadduwm vd va vb => formVX vd va vb 128
  | .vadduws vd va vb => formVX vd va vb 640
  | .vsubcuw vd va vb => formVX vd va vb 1408
  | .vsubsbs vd va vb => formVX vd va vb 1792
  | .vsubshs vd va vb => formVX vd va vb 1856
  | .vsubsws vd va vb => formVX vd va vb 1920
  | .vsububm vd va vb => formVX vd va vb 1024
  | .vsububs vd va vb => formVX vd va vb 1536
  | .vsubuhm vd va vb => formVX vd va vb 1088
  | .vsubuhs vd va vb => formVX vd va vb 1600
  | .vsubuwm vd va vb => formVX vd va vb 1152
  | .vsubuws vd va vb => formVX vd va vb 1664
  -- Integer average, maximum, minimum
  | .vavgsb vd va vb => formVX vd va vb 1282
  | .vavgsh vd va vb => formVX vd va vb 1346
  | .vavgsw vd va vb => formVX vd va vb 1410
  | .vavgub vd va vb => formVX vd va vb 1026
  | .vavguh vd va vb => formVX vd va vb 1090
  | .vavguw vd va vb => formVX vd va vb 1154
  | .vmaxsb vd va vb => formVX vd va vb 258
  | .vmaxsh vd va vb => formVX vd va vb 322
  | .vmaxsw vd va vb => formVX vd va vb 386
  | .vmaxub vd va vb => formVX vd va vb 2
  | .vmaxuh vd va vb => formVX vd va vb 66
  | .vmaxuw vd va vb => formVX vd va vb 130
  | .vminsb vd va vb => formVX vd va vb 770
  | .vminsh vd va vb => formVX vd va vb 834
  | .vminsw vd va vb => formVX vd va vb 898
  | .vminub vd va vb => formVX vd va vb 514
  | .vminuh vd va vb => formVX vd va vb 578
  | .vminuw vd va vb => formVX vd va vb 642
  -- Integer compares
  | .vcmpequb vd va vb rc => formVXR vd va vb rc 6
  | .vcmpequh vd va vb rc => formVXR vd va vb rc 70
  | .vcmpequw vd va vb rc => formVXR vd va vb rc 134
  | .vcmpgtsb vd va vb rc => formVXR vd va vb rc 774
  | .vcmpgtsh vd va vb rc => formVXR vd va vb rc 838
  | .vcmpgtsw vd va vb rc => formVXR vd va vb rc 902
  | .vcmpgtub vd va vb rc => formVXR vd va vb rc 518
  | .vcmpgtuh vd va vb rc => formVXR vd va vb rc 582
  | .vcmpgtuw vd va vb rc => formVXR vd va vb rc 646
  -- Integer multiply, multiply-add, multiply-sum, sum across
  | .vmhaddshs vd va vb vc => formVA vd va vb vc 32
  | .vmhraddshs vd va vb vc => formVA vd va vb vc 33
  | .vmladduhm vd va vb vc => formVA vd va vb vc 34
  | .vmsummbm vd va vb vc => formVA vd va vb vc 37
  | .vmsumshm vd va vb vc => formVA vd va vb vc 40
  | .vmsumshs vd va vb vc => formVA vd va vb vc 41
  | .vmsumubm vd va vb vc => formVA vd va vb vc 36
  | .vmsumuhm vd va vb vc => formVA vd va vb vc 38
  | .vmsumuhs vd va vb vc => formVA vd va vb vc 39
  | .vmulesb vd va vb => formVX vd va vb 776
  | .vmulesh vd va vb => formVX vd va vb 840
  | .vmuleub vd va vb => formVX vd va vb 520
  | .vmuleuh vd va vb => formVX vd va vb 584
  | .vmulosb vd va vb => formVX vd va vb 264
  | .vmulosh vd va vb => formVX vd va vb 328
  | .vmuloub vd va vb => formVX vd va vb 8
  | .vmulouh vd va vb => formVX vd va vb 72
  | .vsumsws vd va vb => formVX vd va vb 1928
  | .vsum2sws vd va vb => formVX vd va vb 1672
  | .vsum4sbs vd va vb => formVX vd va vb 1800
  | .vsum4shs vd va vb => formVX vd va vb 1608
  | .vsum4ubs vd va vb => formVX vd va vb 1544
  -- Logical, select, rotate, shift
  | .vand vd va vb => formVX vd va vb 1028
  | .vandc vd va vb => formVX vd va vb 1092
  | .vnor vd va vb => formVX vd va vb 1284
  | .vor vd va vb => formVX vd va vb 1156
  | .vxor vd va vb => formVX vd va vb 1220
  | .vsel vd va vb vc => formVA vd va vb vc 42
  | .vrlb vd va vb => formVX vd va vb 4
  | .vrlh vd va vb => formVX vd va vb 68
  | .vrlw vd va vb => formVX vd va vb 132
  | .vsl vd va vb => formVX vd va vb 452
  | .vslb vd va vb => formVX vd va vb 260
  | .vsldoi vd va vb shb => formVA vd va vb (0#1 ++ shb) 44
  | .vslh vd va vb => formVX vd va vb 324
  | .vslo vd va vb => formVX vd va vb 1036
  | .vslw vd va vb => formVX vd va vb 388
  | .vsr vd va vb => formVX vd va vb 708
  | .vsrab vd va vb => formVX vd va vb 772
  | .vsrah vd va vb => formVX vd va vb 836
  | .vsraw vd va vb => formVX vd va vb 900
  | .vsrb vd va vb => formVX vd va vb 516
  | .vsrh vd va vb => formVX vd va vb 580
  | .vsro vd va vb => formVX vd va vb 1100
  | .vsrw vd va vb => formVX vd va vb 644
  -- Merge, permute, pack, splat, unpack
  | .vmrghb vd va vb => formVX vd va vb 12
  | .vmrghh vd va vb => formVX vd va vb 76
  | .vmrghw vd va vb => formVX vd va vb 140
  | .vmrglb vd va vb => formVX vd va vb 268
  | .vmrglh vd va vb => formVX vd va vb 332
  | .vmrglw vd va vb => formVX vd va vb 396
  | .vperm vd va vb vc => formVA vd va vb vc 43
  | .vpkpx vd va vb => formVX vd va vb 782
  | .vpkshss vd va vb => formVX vd va vb 398
  | .vpkshus vd va vb => formVX vd va vb 270
  | .vpkswss vd va vb => formVX vd va vb 462
  | .vpkswus vd va vb => formVX vd va vb 334
  | .vpkuhum vd va vb => formVX vd va vb 14
  | .vpkuhus vd va vb => formVX vd va vb 142
  | .vpkuwum vd va vb => formVX vd va vb 78
  | .vpkuwus vd va vb => formVX vd va vb 206
  | .vspltb vd vb uimm => formVX vd uimm vb 524
  | .vsplth vd vb uimm => formVX vd uimm vb 588
  | .vspltisb vd simm => formVX vd simm 0 780
  | .vspltish vd simm => formVX vd simm 0 844
  | .vspltisw vd simm => formVX vd simm 0 908
  | .vspltw vd vb uimm => formVX vd uimm vb 652
  | .vupkhpx vd vb => formVX vd 0 vb 846
  | .vupkhsb vd vb => formVX vd 0 vb 526
  | .vupkhsh vd vb => formVX vd 0 vb 590
  | .vupklpx vd vb => formVX vd 0 vb 974
  | .vupklsb vd vb => formVX vd 0 vb 654
  | .vupklsh vd vb => formVX vd 0 vb 718
  -- Floating point
  | .vaddfp vd va vb => formVX vd va vb 10
  | .vsubfp vd va vb => formVX vd va vb 74
  | .vmaddfp vd va vc vb => formVA vd va vb vc 46
  | .vnmsubfp vd va vc vb => formVA vd va vb vc 47
  | .vmaxfp vd va vb => formVX vd va vb 1034
  | .vminfp vd va vb => formVX vd va vb 1098
  | .vcmpbfp vd va vb rc => formVXR vd va vb rc 966
  | .vcmpeqfp vd va vb rc => formVXR vd va vb rc 198
  | .vcmpgefp vd va vb rc => formVXR vd va vb rc 454
  | .vcmpgtfp vd va vb rc => formVXR vd va vb rc 710
  | .vcfsx vd vb uimm => formVX vd uimm vb 842
  | .vcfux vd vb uimm => formVX vd uimm vb 778
  | .vctsxs vd vb uimm => formVX vd uimm vb 970
  | .vctuxs vd vb uimm => formVX vd uimm vb 906
  | .vrfim vd vb => formVX vd 0 vb 714
  | .vrfin vd vb => formVX vd 0 vb 522
  | .vrfip vd vb => formVX vd 0 vb 650
  | .vrfiz vd vb => formVX vd 0 vb 586
  | .vexptefp vd vb => formVX vd 0 vb 394
  | .vlogefp vd vb => formVX vd 0 vb 458
  | .vrefp vd vb => formVX vd 0 vb 266
  | .vrsqrtefp vd vb => formVX vd 0 vb 330

end Sys2Proof
end

