-- ==== Sys2Proof/Machine/State.lean ====
section
/-! DEFINITION. The state of the machine (10_state.md), the reasons a step can stop (60_exceptions.md R402 to R406), and
the state after reset. -/

namespace Sys2Proof.Machine

/-- What an access was for (R402). -/
inductive AccessKind where
  | load | store | fetch
  deriving DecidableEq, Repr

/-- The terminal events of the machine (R403). -/
inductive Fault where
  /-- An access touched a byte outside `MemDomain` (R402, R65): the aligned effective address and the kind. Raised by
  the ten loads and stores and by the fetch. Safe: the machine stops where the hardware would take an interrupt that
  the spec does not describe. -/
  | memFault (ea : Word) (kind : AccessKind)
  /-- The vector unit is disabled (R405). Raised by every instruction but `dss`, `dst`, `dstst`. Safe, for the same
  reason. -/
  | vecUnavailable
  deriving DecidableEq, Repr

/-- Why the model gives no meaning to a step (R406). -/
inductive Refusal where
  /-- The arm of `exec` for this mnemonic has no meaning yet. Safe. -/
  | notModelled (mnemonic : String)
  /-- The fetched word is no instruction of the spec (R93, R94, R406). Raised by `step`. Safe: no claim about such a
  word can be proved. -/
  | undecodable (word : Word) (reason : DecodeReject)
  /-- `exec` was given operand values that the spec excludes: a splat index past the last element, or `rA = 0` in
  `dst` and `dstst` (R93, D6). No word decodes to them. Safe. -/
  | excludedOperand
  /-- The instruction at this address was written by a store of the same run (R61, D16). Raised by `step`. Safe. -/
  | storedCode (pc : Word)
  /-- `pc` is no multiple of 4, which the spec puts outside the model (R22, D3). Raised by `step`. Safe: no step
  produces such a `pc` from an aligned one. -/
  | misalignedPc (pc : Word)
  deriving DecidableEq, Repr

/-- A data stream (R110): `size` in quadwords, `count` in blocks, `stride` in bytes. -/
structure StreamDescriptor where
  addr : Word
  size : Nat
  count : Nat
  stride : Nat
  transient : Bool
  forStore : Bool
  deriving DecidableEq, Repr

/-- Which quiet NaN an operation returns (00_scope.md R5, 49_float.md R323): the default rule of the spec, or a word
nothing is known of but that it is a quiet NaN. -/
inductive NaNRule where
  | firstOperand | free
  deriving DecidableEq, Repr

/-- Bytes by address, addresses strictly rising, no byte equal to what an unlisted address reads as. -/
abbrev Memory := List Host.Cell

/-- Everything the spec gives the machine (10_state.md), the constant parameters of a run (00_scope.md R5), and two
fields of the model's own. -/
structure State where
  /-- `GPR[0..31]` (R21). -/
  gpr : Vector Word 32
  /-- `VR[0..31]` (R24). -/
  vr : Vector Vec 32
  /-- `pc` (R22). -/
  pc : Word
  /-- `CR` (R23). -/
  cr : Word
  /-- `VSCR.NJ` (R26). -/
  nj : Bool
  /-- `VSCR.SAT` (R27). -/
  sat : Bool
  /-- `Mem` (R28). -/
  mem : Memory
  /-- `STREAM[0..3]` (R29). -/
  stream : Vector (Option StreamDescriptor) 4
  /-- The parameter `LE` (R5, R54); no instruction writes it. -/
  le : Bool
  /-- The parameter `VEC_AVAILABLE` (R5, R405); no instruction writes it. -/
  vecAvailable : Bool
  /-- The parameter `MemDomain` (R5, R50) as closed intervals; no instruction writes it. -/
  domain : List (Nat × Nat)
  /-- The parameter `NaNPayload` (R5, R323); no instruction writes it. -/
  nanRule : NaNRule
  /-- The model's own: how many free values have been drawn (log entry 11). -/
  fresh : Nat
  /-- The model's own: the addresses that stores of this run wrote, strictly rising (R61, log entry 15). -/
  stored : List Nat
  deriving DecidableEq, Repr

/-- The start state. The spec gives the streams (R29), the reserved bits of VSCR (R31) and the defaults of `LE`,
`VEC_AVAILABLE` and `NaNPayload` (R5); every other value is DESIGN CHOICE, unsafe, log entries 1 to 6, 9, 11. -/
def State.reset : State where
  gpr := Vector.replicate 32 0
  vr := Vector.replicate 32 0
  pc := 0
  cr := 0
  nj := false
  sat := false
  mem := []
  stream := Vector.replicate 4 none
  le := false
  vecAvailable := true
  domain := [(0, 0xFFFFFFFF)]
  nanRule := .firstOperand
  fresh := 0
  stored := []

end Sys2Proof.Machine
end

