-- ==== Sys2Proof/Machine/Ops.lean ====
section
/-! DEFINITION. The named operations over registers, memory and streams, the end of an instruction, and the one way an
event is raised. -/

namespace Sys2Proof.Machine

/-- What one instruction answers. -/
abbrev Result := Host.Outcome State Fault Refusal

/-! Memory (20_memory.md). -/

/-- What a byte that memory does not list reads as. DESIGN CHOICE, unsafe: log entry 6. -/
def Memory.unlisted : Byte := 0

/-- The byte at an address (R50). -/
def Memory.read : Memory → Nat → Byte
  | [], _ => Memory.unlisted
  | (c, x) :: t, a => if c = a then x else Memory.read t a

/-- Memory without an entry at an address. -/
def Memory.erase : Memory → Nat → Memory
  | [], _ => []
  | (c, x) :: t, a => if c = a then Memory.erase t a else (c, x) :: Memory.erase t a

/-- Memory with one entry put before the first larger address. -/
def Memory.insert : Memory → Nat → Byte → Memory
  | [], a, b => [(a, b)]
  | (c, x) :: t, a, b => if a < c then (a, b) :: (c, x) :: t else (c, x) :: Memory.insert t a b

/-- Memory with one byte changed, in the canonical form. -/
def Memory.write (m : Memory) (a : Nat) (b : Byte) : Memory :=
  if b = Memory.unlisted then Memory.erase m a else Memory.insert (Memory.erase m a) a b

/-- Memory with consecutive bytes changed, from address `a` on. -/
def Memory.writeBytes (m : Memory) (a : Nat) : List Byte → Memory
  | [] => m
  | b :: bs => Memory.writeBytes (Memory.write m a b) (a + 1) bs

/-- The canonical form: addresses strictly rising and 32 bits wide, no byte equal to the unlisted one. -/
def Memory.wf : Memory → Bool
  | [] => true
  | [(a, b)] => decide (a < 2 ^ 32) && decide (b ≠ Memory.unlisted)
  | (a, b) :: (c, x) :: t => decide (a < c) && decide (b ≠ Memory.unlisted) && Memory.wf ((c, x) :: t)

/-- A strictly rising list of addresses with one more address. -/
def addAddress : List Nat → Nat → List Nat
  | [], a => [a]
  | c :: t, a => if a < c then a :: c :: t else if a = c then c :: t else c :: addAddress t a

/-- A list of addresses with `n` consecutive ones more. -/
def addAddresses (l : List Nat) (a : Nat) : Nat → List Nat
  | 0 => l
  | n + 1 => addAddresses (addAddress l a) (a + 1) n

/-- Whether an address is in `MemDomain` (R50). -/
def State.inDomain (s : State) (a : Nat) : Bool :=
  s.domain.any fun r => decide (r.1 ≤ a) && decide (a ≤ r.2)

/-- Whether all of `n` bytes from `a` on are in `MemDomain` (R65). -/
def State.accessible (s : State) (a n : Nat) : Bool :=
  (List.range n).all fun j => s.inDomain (a + j)

/-- `Mem[a]` (R50). -/
def State.readByte (s : State) (a : Nat) : Byte := s.mem.read a

/-- `n` bytes of memory, lowest address first. -/
def State.readBytes (s : State) (a n : Nat) : List Byte :=
  (List.range n).map fun j => s.readByte (a + j)

/-- The bits of a list of bytes, the first byte the most significant. -/
def valueOfBytes (w : Nat) (bs : List Byte) : BitVec w :=
  bs.foldl (fun acc b => (acc <<< 8) ||| b.setWidth w) 0

/-- The `n` bytes of an `8n`-bit value, the most significant byte first. -/
def bytesOfValue {w : Nat} (n : Nat) (v : BitVec w) : List Byte :=
  (List.range n).map fun j => v.extractLsb' (8 * (n - 1 - j)) 8

/-- A list of bytes in the order of the endian mode: as it stands in big-endian mode (R52), reversed in little-endian
mode (R53). -/
def inMemoryOrder (le : Bool) (bs : List Byte) : List Byte := if le then bs.reverse else bs

/-- `MemRead(a, n)` for `n` up to 8, and for 16 in big-endian mode (R52, R53), as a value of `w = 8n` bits. -/
def State.memRead (s : State) (w a n : Nat) : BitVec w :=
  valueOfBytes w (inMemoryOrder s.le (s.readBytes a n))

/-- The quadword read of `lvx` and `lvxl`: one 16-byte read in big-endian mode, two doublewords in little-endian mode
(R53, R125). -/
def State.memReadQuad (s : State) (a : Nat) : Vec :=
  if s.le then s.memRead 64 (a + 8) 8 ++ s.memRead 64 a 8 else s.memRead 128 a 16

/-- The bytes `MemWrite(a, n, v)` puts at `a`, `a+1`, … (R52, R53). -/
def State.storedBytes {w : Nat} (s : State) (n : Nat) (v : BitVec w) : List Byte :=
  inMemoryOrder s.le (bytesOfValue n v)

/-- `MemWrite(a, n, v)` (R52, R53); the written addresses are remembered for R61. -/
def State.memWrite {w : Nat} (s : State) (a n : Nat) (v : BitVec w) : State :=
  { s with
    mem := s.mem.writeBytes a (s.storedBytes n v)
    stored := addAddresses s.stored a n }

/-- The quadword write of `stvx` and `stvxl` (R130): two doublewords in little-endian mode. -/
def State.memWriteQuad (s : State) (a : Nat) (v : Vec) : State :=
  if s.le then (s.memWrite a 8 (v.extractLsb' 0 64)).memWrite (a + 8) 8 (v.extractLsb' 64 64)
  else s.memWrite a 16 v

/-! Registers (10_state.md). -/

/-- `GPR[n]` (R21). -/
def State.getGpr (s : State) (r : GReg) : Word := s.gpr[r.toNat]'r.isLt

/-- `VR[n]` (R24). -/
def State.getVr (s : State) (r : VReg) : Vec := s.vr[r.toNat]'r.isLt

/-- `VR[n] <- v` (R24). -/
def State.setVr (s : State) (r : VReg) (v : Vec) : State := { s with vr := s.vr.set r.toNat v r.isLt }

/-- The `VSCR` word: `zeros(15) || NJ || zeros(15) || SAT` (R25, R140). -/
def State.vscr (s : State) : Word := 0#15 ++ BitVec.ofBool s.nj ++ 0#15 ++ BitVec.ofBool s.sat

/-- `VSCR <- w`: bit 15 into NJ, bit 31 into SAT, the rest ignored (R25, R141). -/
def State.setVscr (s : State) (w : Word) : State := { s with nj := w.getLsbD 16, sat := w.getLsbD 0 }

/-- `SAT |= f` (R27). -/
def State.orSat (s : State) (f : Bool) : State := { s with sat := s.sat || f }

/-- `CR[24:27] <- f`, the other 28 bits kept (R23). -/
def State.setCr6 (s : State) (f : BitVec 4) : State :=
  { s with cr := s.cr.extractLsb' 8 24 ++ f ++ s.cr.extractLsb' 0 4 }

/-- `CR[24:27]` (R23). -/
def State.cr6 (s : State) : BitVec 4 := s.cr.extractLsb' 4 4

/-- `STREAM[k]` (R29). -/
def State.getStream (s : State) (k : BitVec 2) : Option StreamDescriptor := s.stream[k.toNat]'k.isLt

/-- `STREAM[k] <- d` (R29). -/
def State.setStream (s : State) (k : BitVec 2) (d : Option StreamDescriptor) : State :=
  { s with stream := s.stream.set k.toNat d k.isLt }

/-- Every stream stopped (R111, `A = 1`). -/
def State.clearStreams (s : State) : State := { s with stream := Vector.replicate 4 none }

/-! Free values (93_implementation_defined.md U1, U2). -/

/-- The value the next use of `Undef(128)` supplies (R5). Nothing is known of it: log entry 11. -/
def State.undef (s : State) : Vec := Config.undef128 s.fresh

/-- One free value has been drawn; the next use has another. -/
def State.draw (s : State) : State := { s with fresh := s.fresh + 1 }

/-! The ends of an instruction. -/

/-- `pc <- pc + 4` modulo 2^32 (R22). -/
def State.advance (s : State) : State := { s with pc := s.pc + 4 }

/-- An event (R402 to R410). It is terminal and precise: the machine stops with the state as it was before the
instruction, which is the state the step was given; nothing is saved, no mode changes and control goes nowhere, so there
is no entry state and no return (R410, R411). -/
def raise (_before : State) (f : Fault) : Result := .fault f

/-- The end of an instruction that needs the vector unit: `VecUnavailable` where it is disabled (R405), before any
load or store event (R409). -/
def whenAvailable (s : State) (r : Result) : Result :=
  if s.vecAvailable then r else raise s .vecUnavailable

/-- The end of an instruction that only changes state: the changed state, `pc` past the instruction. -/
def finish (s t : State) : Result := whenAvailable s (.next t.advance)

/-- `VR[vD] <- v`. -/
def writeVr (s : State) (vd : VReg) (v : Vec) : Result := finish s (s.setVr vd v)

/-- `VR[vD] <- v` and `SAT |= f` (R9, R27). -/
def writeVrSat (s : State) (vd : VReg) (v : Vec × Bool) : Result := finish s ((s.setVr vd v.1).orSat v.2)

/-- `VR[vD] <- v`, and `CR[24:27] <- f` where `Rc` is 1 (R23, R84). -/
def writeVrCr6 (s : State) (vd : VReg) (rc : Bool) (v : Vec × BitVec 4) : Result :=
  finish s (if rc then (s.setVr vd v.1).setCr6 v.2 else s.setVr vd v.1)

/-- `VR[vD] <- v` where `v` used a free value. -/
def writeVrDrawn (s : State) (vd : VReg) (v : Vec) : Result := finish s (s.setVr vd v).draw

/-- A memory access of `n` bytes at the aligned address `ea`: the state after it, or `MemFault(EA, kind)` where one of
its bytes is outside `MemDomain` (R65, R402). -/
def access (s : State) (ea : Word) (n : Nat) (kind : AccessKind) (after : State) : Result :=
  whenAvailable s (if s.accessible ea.toNat n then .next after.advance else raise s (.memFault ea kind))

/-- An instruction with operand values that the spec excludes is refused (R93, D6), before any event (R409). -/
def whenOperandsAllowed (ok : Bool) (r : Result) : Result := if ok then r else .refused .excludedOperand

end Sys2Proof.Machine
end

