-- ==== Sys2Proof/Machine/Operands.lean ====
section
/-! DEFINITION. The operand forms: elements of a vector (00_scope.md R7), the effective address (20_memory.md R51), the
stream control word (40_data_stream.md R112). -/

namespace Sys2Proof.Machine

/-! Elements. -/

/-- Element `k` of `w` bits, element 0 the most significant: `byte(X,k)`, `half(X,k)`, `word(X,k)` (R7). -/
def elem (w : Nat) (x : Vec) (k : Nat) : BitVec w := x.extractLsb' (128 - w * (k + 1)) w

/-- The low `n * w` bits made of `n` elements of `w` bits, the first the most significant. -/
def ofElems (w : Nat) : Nat → (Nat → BitVec w) → Vec
  | 0, _ => 0
  | n + 1, f => (ofElems w n f <<< w) ||| (f n).setWidth 128

/-- The vector whose element `k` is `f k`. -/
def vecOf (w : Nat) (f : Nat → BitVec w) : Vec := ofElems w (128 / w) f

/-- The vector whose element `k` is the value of `f k`, and the flags of all elements ORed (R9). -/
def vecOfSat (w : Nat) (f : Nat → BitVec w × Bool) : Vec × Bool :=
  (vecOf w fun k => (f k).1, (List.range (128 / w)).any fun k => (f k).2)

/-- A vector with element `k` replaced. -/
def setElem (w : Nat) (x : Vec) (k : Nat) (v : BitVec w) : Vec :=
  vecOf w fun j => if j = k then v else elem w x j

/-- Element `j` of the 256-bit value `a || b` (R280, R287). -/
def elemPair (w : Nat) (a b : Vec) (j : Nat) : BitVec w :=
  if j < 128 / w then elem w a j else elem w b (j - 128 / w)

/-- The sum of `f 0` to `f (n-1)`. -/
def sumTo (n : Nat) (f : Nat → Int) : Int :=
  match n with
  | 0 => 0
  | m + 1 => sumTo m f + f m

/-! Addresses. -/

/-- `(rA|0)`: the constant 0 where the field is 0 (R10, R51). -/
def State.baseOrZero (s : State) (ra : GReg) : Word := if ra = 0 then 0 else s.getGpr ra

/-- `(rA|0) + (rB)` modulo 2^32 (R51). -/
def State.sumAddress (s : State) (ra rb : GReg) : Word := s.baseOrZero ra + s.getGpr rb

/-- The effective address of an access of `2^k` bytes: the sum with its low `k` bits zero (R51). -/
def State.effective (s : State) (ra rb : GReg) (k : Nat) : Word := (s.sumAddress ra rb >>> k) <<< k

/-- `EA[28:31]`: the place of a byte in its aligned quadword (R120). -/
def quadOffset (ea : Word) : Nat := (ea.extractLsb' 0 4).toNat

/-- The index of the `2^k`-byte element of a register that an access at `ea` moves: the element at the address's place
in its quadword, mirrored in little-endian mode (R53, R120 to R122, R127 to R129). -/
def State.elementIndex (s : State) (ea : Word) (k : Nat) : Nat :=
  if s.le then 16 / 2 ^ k - 1 - quadOffset ea / 2 ^ k else quadOffset ea / 2 ^ k

/-! Streams. -/

/-- A field of the control word where zero means the maximum (R112). -/
def orMaximum (n max : Nat) : Nat := if n = 0 then max else n

/-- The stream that `dst` or `dstst` starts at `addr` with the control word `c`: size in bits 3:7, count in bits 8:15,
stride in bits 16:31, bits 0:2 ignored (R112, R113). -/
def streamOf (addr c : Word) (transient forStore : Bool) : StreamDescriptor where
  addr := addr
  size := orMaximum (c.extractLsb' 24 5).toNat 32
  count := orMaximum (c.extractLsb' 16 8).toNat 256
  stride := orMaximum (c.extractLsb' 0 16).toNat 32768
  transient := transient
  forStore := forStore

end Sys2Proof.Machine
end

