-- ==== Sys2Proof/Machine/DataStream.lean ====
section
/-! DEFINITION. The data-stream hints (40_data_stream.md). They change the streams and nothing else, need no vector unit (R405) and
never fault (R65). -/

namespace Sys2Proof.Machine

/-- The end of a data-stream instruction: `VecUnavailable` does not apply to it (R403, R405). -/
def finishStream (t : State) : Result := .next t.advance

/-- `dss`, Data Stream Stop (R111). -/
def execDss (strm : BitVec 2) (a : Bool) (s : State) : Result :=
  finishStream (if a then s.clearStreams else s.setStream strm none)

/-- `dst`, Data Stream Touch (R112, control word included). -/
def execDst (ra rb : GReg) (strm : BitVec 2) (t : Bool) (s : State) : Result :=
  whenOperandsAllowed (wfStream ra)
    (finishStream (s.setStream strm (some (streamOf (s.getGpr ra) (s.getGpr rb) t false))))

/-- `dstst`, Data Stream Touch for Store (R113). -/
def execDstst (ra rb : GReg) (strm : BitVec 2) (t : Bool) (s : State) : Result :=
  whenOperandsAllowed (wfStream ra)
    (finishStream (s.setStream strm (some (streamOf (s.getGpr ra) (s.getGpr rb) t true))))

end Sys2Proof.Machine
end

