-- ==== Sys2Proof/Machine/Fp.lean ====
section
/-! DEFINITION. Single-precision arithmetic on words (00_scope.md R13, 49_float.md R320 to R325). Every finite word is an
integer multiple of 2^-149, so exact values are integers counted in that unit. -/

namespace Sys2Proof.Machine

/-! Fields, classes and values (R13, R320). -/

/-- The sign bit. -/
def fpSign (w : Word) : Bool := w.getLsbD 31

/-- The biased exponent. -/
def fpExp (w : Word) : Nat := (w.extractLsb' 23 8).toNat

/-- The fraction. -/
def fpFrac (w : Word) : Nat := (w.extractLsb' 0 23).toNat

def isNaN (w : Word) : Bool := fpExp w == 255 && fpFrac w != 0

def isInf (w : Word) : Bool := fpExp w == 255 && fpFrac w == 0

def isZero (w : Word) : Bool := fpExp w == 0 && fpFrac w == 0

def isDenorm (w : Word) : Bool := fpExp w == 0 && fpFrac w != 0

def isFinite (w : Word) : Bool := fpExp w != 255

/-- A NaN with its quiet bit set (R13, R323). -/
def isQNaN (w : Word) : Bool := isNaN w && w.getLsbD 22

/-- The magnitude of a finite word in units of 2^-149. For an infinity it is 2^277, above that of every finite word. -/
def fpMag (w : Word) : Nat := if fpExp w = 0 then fpFrac w else (2 ^ 23 + fpFrac w) * 2 ^ (fpExp w - 1)

/-- `fpval(w)` in units of 2^-149; infinities lie beyond every finite value, so that it also orders them (R324). -/
def fpScaled (w : Word) : Int := if fpSign w then -(fpMag w : Int) else (fpMag w : Int)

/-- The zero of a sign. -/
def zeroOf (sign : Bool) : Word := if sign then 0x80000000 else 0

/-- The infinity of a sign. -/
def infOf (sign : Bool) : Word := if sign then 0xFF800000 else 0x7F800000

/-- `neg(w)` (R320). -/
def fpNeg (w : Word) : Word := w ^^^ 0x80000000

/-- `DefaultQNaN` (R323). -/
def defaultQNaN : Word := 0x7FC00000

/-- 2^149: the integer 1.0 in units of 2^-149. -/
def fpUnit : Nat := 2 ^ 149

/-! Rounding (R322). -/

/-- `m / d` rounded to the nearest integer, ties to even. -/
def nearestEven (m d : Nat) : Nat :=
  if 2 * (m % d) < d then m / d
  else if d < 2 * (m % d) then m / d + 1
  else m / d + (m / d) % 2

/-- The place of the last bit of the significand of a value whose integer part in units of 2^-149 is `q`: 24 bits are
kept, and none below 2^-149 (the denormalized grid). -/
def fpShift (q : Nat) : Nat := Nat.log2 q - 23

/-- The bits, without a sign, of the word nearest `m / d` in units of 2^-149; too large a value gives infinity. A carry
of the rounded significand runs into the exponent field, which is what the sum does. -/
def roundMag (m d : Nat) : Nat :=
  min (fpShift (m / d) * 2 ^ 23 + nearestEven m (d * 2 ^ fpShift (m / d))) 0x7F800000

/-- `RoundNE(z / d * 2^-149)` for `z` other than 0 (R13, R322). -/
def roundNE (z : Int) (d : Nat) : Word :=
  BitVec.ofNat 32 (roundMag z.natAbs d) ||| zeroOf (decide (z < 0))

/-! NaN results (R323). -/

/-- The first NaN of a list with its quiet bit set, `DefaultQNaN` where there is none: the default rule (R323, D12). -/
def firstNaN : List Word → Word
  | [] => defaultQNaN
  | w :: ws => if isNaN w then w ||| 0x00400000 else firstNaN ws

/-- The quiet NaN that an operation on these operands, in the order vA, vB, vC, returns (R323). Under the free rule
nothing is known of it but that it is a quiet NaN: log entry 10. -/
def State.nanWord (s : State) (op : FpOp) (ws : List Word) : Word :=
  match s.nanRule with
  | .firstOperand => firstNaN ws
  | .free => Config.nanPayload op ws ||| defaultQNaN

/-! Non-Java mode (R321). -/

/-- `flushNJ(w)`. -/
def State.flushNJ (s : State) (w : Word) : Word := if s.nj && isDenorm w then zeroOf (fpSign w) else w

/-! Arithmetic (R322). `nan` is the NaN to return. -/

/-- `FAdd(a, b)`. -/
def fpAdd (nan a b : Word) : Word :=
  if isNaN a || isNaN b then nan
  else if isInf a && isInf b && fpSign a != fpSign b then nan
  else if isInf a then a
  else if isInf b then b
  else if fpScaled a + fpScaled b = 0 then zeroOf (isZero a && isZero b && fpSign a && fpSign b)
  else roundNE (fpScaled a + fpScaled b) 1

/-- `FSub(a, b)`: the caller gives the NaN of the operands as they stand, so a NaN `b` is not negated. -/
def fpSub (nan a b : Word) : Word :=
  if isNaN a || isNaN b then nan else fpAdd nan a (fpNeg b)

/-- The exact `a * c + b` in units of 2^-298. -/
def fpExactMulAdd (a c b : Word) : Int := fpScaled a * fpScaled c + fpScaled b * (fpUnit : Int)

/-- `FMA(a, c, b)`: `a * c + b` with one rounding. -/
def fpMulAdd (nan a c b : Word) : Word :=
  if isNaN a || isNaN b || isNaN c then nan
  else if (isInf a && isZero c) || (isZero a && isInf c) then nan
  else if isInf a || isInf c then
    if isInf b && fpSign b != (fpSign a != fpSign c) then nan else infOf (fpSign a != fpSign c)
  else if isInf b then b
  else if fpExactMulAdd a c b = 0 then
    zeroOf ((isZero a || isZero c) && isZero b && fpSign b == (fpSign a != fpSign c) && fpSign b)
  else roundNE (fpExactMulAdd a c b) fpUnit

/-- The negated multiply-subtract of R329: `-(a * c - b)` with one rounding, a NaN not negated. -/
def fpNegMulSub (nan a c b : Word) : Word :=
  if isNaN a || isNaN b || isNaN c then nan
  else
    let r := fpMulAdd nan a c (fpNeg b)
    if isNaN r then r else fpNeg r

/-! Comparison (R324): every predicate is false of a NaN. -/

/-- `a =fp b`. -/
def fpEq (a b : Word) : Bool := !isNaN a && !isNaN b && decide (fpScaled a = fpScaled b)

/-- `a ≥fp b`. -/
def fpGe (a b : Word) : Bool := !isNaN a && !isNaN b && decide (fpScaled b ≤ fpScaled a)

/-- `a >fp b`. -/
def fpGt (a b : Word) : Bool := !isNaN a && !isNaN b && decide (fpScaled b < fpScaled a)

/-- `a ≤fp b`. -/
def fpLe (a b : Word) : Bool := !isNaN a && !isNaN b && decide (fpScaled a ≤ fpScaled b)

/-- `a <fp b`. -/
def fpLt (a b : Word) : Bool := !isNaN a && !isNaN b && decide (fpScaled a < fpScaled b)

/-- The maximum (R330). -/
def fpMax (nan a b : Word) : Word :=
  if isNaN a || isNaN b then nan
  else if isZero a && isZero b then a &&& b
  else if fpGe a b then a else b

/-- The minimum (R331). -/
def fpMin (nan a b : Word) : Word :=
  if isNaN a || isNaN b then nan
  else if isZero a && isZero b then a ||| b
  else if fpLt a b then a else b

/-! Conversions (R336 to R339). -/

/-- An integer divided by `2^scale`, as a word (R336, R337). -/
def fpOfInt (z : Int) (scale : Nat) : Word :=
  if z = 0 then 0 else roundNE (z * (fpUnit : Int)) (2 ^ scale)

/-- The integer part, toward zero, of a finite word times `2^scale` (R338, R339). -/
def fpToInt (w : Word) (scale : Nat) : Int := (fpScaled w * ((2 ^ scale : Nat) : Int)).tdiv (fpUnit : Int)

/-- `vctsxs` on one element: the value and the saturation flag (R338, D19, D22). -/
def fpToSigned (w : Word) (scale : Nat) : Word × Bool :=
  if isNaN w then (0, false)
  else if isInf w then (if fpSign w then 0x80000000 else 0x7FFFFFFF, true)
  else satS 32 (fpToInt w scale)

/-- `vctuxs` on one element: the value and the saturation flag (R339, D19, D22). -/
def fpToUnsigned (w : Word) (scale : Nat) : Word × Bool :=
  if isNaN w then (0, false)
  else if isInf w then (if fpSign w then 0 else 0xFFFFFFFF, true)
  else satU 32 (fpToInt w scale)

/-! Rounding to an integral value (R340 to R343). -/

/-- The four rounding directions of `vrfim`, `vrfin`, `vrfip`, `vrfiz`. -/
inductive RoundDirection where
  | minus | nearest | plus | zero
  deriving DecidableEq, Repr

/-- A finite word as an integer, rounded in a direction. -/
def fpIntegral (dir : RoundDirection) (w : Word) : Int :=
  match dir with
  | .minus => (fpScaled w).fdiv (fpUnit : Int)
  | .nearest =>
    if fpSign w then -(nearestEven (fpMag w) fpUnit : Int) else (nearestEven (fpMag w) fpUnit : Int)
  | .plus => -((-(fpScaled w)).fdiv (fpUnit : Int))
  | .zero => (fpScaled w).tdiv (fpUnit : Int)

/-- A word rounded to an integral value (R340 to R343). -/
def fpRoundIntegral (nan : Word) (dir : RoundDirection) (w : Word) : Word :=
  if isNaN w then nan
  else if isInf w || isZero w then w
  else if fpIntegral dir w = 0 then zeroOf (fpSign w)
  else roundNE (fpIntegral dir w * (fpUnit : Int)) 1

end Sys2Proof.Machine
end

