-- ==== Sys2Proof/Machine/FpEstimate.lean ====
section
/-! DEFINITION. The four estimates (49_float.md R344, R346 to R349). Each delivers, outside its special-value table, any
word the page allows: a free word of Config where that word is allowed, and a word of the model's own making where it is
not (log entry 12). What a page allows is stated with exact integers: `fpScaled` counts in units of 2^-149, so an
inequality between powers of two with such exponents is raised to the power 2^149 and compared in whole numbers. Those
numbers are too large to be computed: a cheap consequence of each comparison stands before it, so that a free word that
a tool replaces by 0 is turned away without them. -/

namespace Sys2Proof.Machine

/-- The free word where the page allows it, the model's word otherwise. -/
def chosenEstimate (allowed : Word → Bool) (free made : Word) : Word := if allowed free then free else made

/-! Reciprocal (R348). -/

/-- 1/x lies in the range of normalized numbers: `2^-126 ≤ |1/x| < 2^128`. -/
def recipInRange (x : Word) : Bool := decide (2 ^ 21 < fpMag x) && decide (fpMag x ≤ 2 ^ 275)

/-- What R348 allows for a finite nonzero operand: no NaN, the operand's sign, and in range a finite nonzero word with
`|r * x - 1| ≤ 1/4096`. -/
def allowedRecip (x r : Word) : Bool :=
  !isNaN r && fpSign r == fpSign x &&
  (!recipInRange x || (isFinite r && !isZero r &&
    decide (4096 * (fpScaled r * fpScaled x - 2 ^ 298).natAbs ≤ 2 ^ 298)))

/-- A word that R348 allows: `RoundNE(1/x)`. -/
def madeRecip (x : Word) : Word := roundNE (if fpSign x then -(2 ^ 298 : Int) else 2 ^ 298) (fpMag x)

/-! Reciprocal square root (R349). -/

/-- What R349 allows for a finite positive operand: a finite positive word with `|r * √x - 1| ≤ 1/4096`. -/
def allowedRsqrt (x r : Word) : Bool :=
  isFinite r && !fpSign r &&
  decide (4095 ^ 2 * 2 ^ 447 ≤ 4096 ^ 2 * (fpMag r ^ 2 * fpMag x)) &&
  decide (4096 ^ 2 * (fpMag r ^ 2 * fpMag x) ≤ 4097 ^ 2 * 2 ^ 447)

/-- A word that R349 allows: the rounded integer square root of `1/x`. -/
def madeRsqrt (x : Word) : Word := roundNE (Nat.sqrt (2 ^ 447 / fpMag x) : Int) 1

/-! Power of two (R346). -/

/-- The operand is an integer from -149 to 127, so that the result is exact (R346, constraint 3). -/
def isExactPower (x : Word) : Bool :=
  fpScaled x % (fpUnit : Int) == 0 && decide (-149 ≤ fpScaled x / (fpUnit : Int))
    && decide (fpScaled x / (fpUnit : Int) ≤ 127)

/-- The word of `2^n` for `-149 ≤ n ≤ 127` (R346, constraint 3). -/
def powerWord (n : Int) : Word :=
  if -126 ≤ n then BitVec.ofNat 32 (n + 127).toNat <<< 23 else 1 <<< (n + 149).toNat

/-- `2^x` lies in the range of normalized numbers: `-126 ≤ x < 128`. -/
def powerInRange (x : Word) : Bool :=
  decide (-126 * (fpUnit : Int) ≤ fpScaled x) && decide (fpScaled x < 128 * (fpUnit : Int))

/-- The exponent of `(2^x * 2^149)^(2^149)`, as a power of two, for an operand in range. -/
def powerExponent (x : Word) : Nat := (fpScaled x + 149 * (fpUnit : Int)).toNat

/-- What R346 allows for a finite nonzero operand: no NaN, sign 0, and in range a finite word with
`15/16 * 2^x ≤ r ≤ 17/16 * 2^x`. -/
def allowedPower (x r : Word) : Bool :=
  !isNaN r && !fpSign r &&
  (!powerInRange x || (isFinite r && !isZero r &&
    decide (15 ^ fpUnit * 2 ^ powerExponent x ≤ (16 * fpMag r) ^ fpUnit) &&
    decide ((16 * fpMag r) ^ fpUnit ≤ 17 ^ fpUnit * 2 ^ powerExponent x)))

/-- `2^24 * 2^((2j+1)/16)` for `j` from 0 to 7, to the nearest integer. -/
def powerSixteenth (j : Nat) : Nat :=
  match j with
  | 0 => 17520007
  | 1 => 19105703
  | 2 => 20834917
  | 3 => 22720638
  | 4 => 24777031
  | 5 => 27019544
  | 6 => 29465022
  | _ => 32131834

/-- A word that R346 allows: `2^x` with the fraction of `x` taken to the middle of its eighth; an infinity or a zero
outside the range. -/
def madePower (x : Word) : Word :=
  if fpScaled x < -126 * (fpUnit : Int) then 0
  else if 128 * (fpUnit : Int) ≤ fpScaled x then infOf false
  else
    let eighths := fpScaled x * 8 / (fpUnit : Int)
    roundNE ((powerSixteenth (eighths % 8).toNat * 2 ^ (eighths / 8 + 149).toNat : Nat) : Int) (2 ^ 24)

/-! Base-2 logarithm (R347). -/

/-- `|x - 1| > 1/8`. -/
def logAwayFromOne (x : Word) : Bool := decide (fpUnit < 8 * (fpScaled x - (fpUnit : Int)).natAbs)

/-- `2^e ≤ n` for an integer `e` and a positive `n`. -/
def powLe (e : Int) (n : Nat) : Bool := decide (e < 0) || decide (2 ^ e.toNat ≤ n)

/-- `n ≤ 2^e` for an integer `e` and a positive `n`. -/
def lePow (n : Nat) (e : Int) : Bool := decide (0 ≤ e) && decide (n ≤ 2 ^ e.toNat)

/-- A consequence of `|r - log2 x| ≤ 1/32`: with `L` the integer part of `64 * log2 x`, `L - 2 ≤ 64 * r ≤ L + 3`. -/
def nearLog (x r : Word) : Bool :=
  decide (((Nat.log2 (fpMag x ^ 64) : Int) - 149 * 64 - 2) * (fpUnit : Int) ≤ 64 * fpScaled r) &&
    decide (64 * fpScaled r ≤ ((Nat.log2 (fpMag x ^ 64) : Int) - 149 * 64 + 3) * (fpUnit : Int))

/-- What R347 allows for a finite positive operand: a finite word, and away from 1 with `|r - log2 x| ≤ 1/32`, that is
`2^(r - 1/32) ≤ x ≤ 2^(r + 1/32)`. -/
def allowedLog (x r : Word) : Bool :=
  isFinite r &&
  (!logAwayFromOne x || (nearLog x r &&
    powLe (fpScaled r - 2 ^ 144 + 149 * (fpUnit : Int)) (fpMag x ^ fpUnit) &&
    lePow (fpMag x ^ fpUnit) (fpScaled r + 2 ^ 144 + 149 * (fpUnit : Int))))

/-- A word that R347 allows: the logarithm taken to the middle of its sixteenth, `(2L + 1) / 32` with `L` the integer
part of `16 * log2 x`. -/
def madeLog (x : Word) : Word :=
  roundNE ((2 * ((Nat.log2 (fpMag x ^ 16) : Int) - 149 * 16) + 1) * (fpUnit : Int)) 32

/-! One element of each estimate. `nan` is the NaN to return, `free` the free word. -/

/-- `vrefp` on one element after the operand flush (R348, Table 6-7). -/
def fpRecip (nan free x : Word) : Word :=
  if isNaN x then nan
  else if isInf x then zeroOf (fpSign x)
  else if isZero x then infOf (fpSign x)
  else chosenEstimate (allowedRecip x) free (madeRecip x)

/-- `vrsqrtefp` on one element after the operand flush (R349, Table 6-8). -/
def fpRsqrt (nan free x : Word) : Word :=
  if isNaN x then nan
  else if isZero x then infOf (fpSign x)
  else if fpSign x then nan
  else if isInf x then 0
  else chosenEstimate (allowedRsqrt x) free (madeRsqrt x)

/-- `vexptefp` on one element after the operand flush (R346, Table 6-5). -/
def fpPower (nan free x : Word) : Word :=
  if isNaN x then nan
  else if isZero x then 0x3F800000
  else if isInf x then (if fpSign x then 0 else infOf false)
  else if isExactPower x then powerWord (fpScaled x / (fpUnit : Int))
  else chosenEstimate (allowedPower x) free (madePower x)

/-- `vlogefp` on one element after the operand flush (R347, Table 6-6). -/
def fpLog (nan free x : Word) : Word :=
  if isNaN x then nan
  else if isZero x then infOf true
  else if fpSign x then nan
  else if isInf x then infOf false
  else chosenEstimate (allowedLog x) free (madeLog x)

end Sys2Proof.Machine
end

