-- ==== Sys2Proof/Machine/IntCompare.lean ====
section
/-! DEFINITION. Integer compares (45_int_compare.md). -/

namespace Sys2Proof.Machine

/-! Shared operations, by element width. -/

/-- A truth value repeated over an element (R200). -/
def fill (w : Nat) (p : Bool) : BitVec w := if p then BitVec.allOnes w else 0

/-- The result of a compare and what its recording form writes into CR6 (R200). -/
def compared (w : Nat) (f : Nat → Bool) : Vec × BitVec 4 :=
  (vecOf w fun k => fill w (f k), cr6OfCompare (vecOf w fun k => fill w (f k)))

/-- Equal elements (R201 to R203). -/
def compareEqual (w : Nat) (a b : Vec) : Vec × BitVec 4 := compared w fun k => elem w a k == elem w b k

/-- Signed greater-than (R204 to R206). -/
def compareSigned (w : Nat) (a b : Vec) : Vec × BitVec 4 :=
  compared w fun k => decide (sint (elem w b k) < sint (elem w a k))

/-- Unsigned greater-than (R207 to R209). -/
def compareUnsigned (w : Nat) (a b : Vec) : Vec × BitVec 4 :=
  compared w fun k => decide (uint (elem w b k) < uint (elem w a k))

/-! Meanings. -/

/-- `vcmpequb`, Vector Compare Equal-to Unsigned Byte (R201). -/
def execVcmpequb (vd va vb : VReg) (rc : Bool) (s : State) : Result :=
  writeVrCr6 s vd rc (compareEqual 8 (s.getVr va) (s.getVr vb))

/-- `vcmpequh`, Vector Compare Equal-to Unsigned Half Word (R202). -/
def execVcmpequh (vd va vb : VReg) (rc : Bool) (s : State) : Result :=
  writeVrCr6 s vd rc (compareEqual 16 (s.getVr va) (s.getVr vb))

/-- `vcmpequw`, Vector Compare Equal-to Unsigned Word (R203). -/
def execVcmpequw (vd va vb : VReg) (rc : Bool) (s : State) : Result :=
  writeVrCr6 s vd rc (compareEqual 32 (s.getVr va) (s.getVr vb))

/-- `vcmpgtsb`, Vector Compare Greater-Than Signed Byte (R204). -/
def execVcmpgtsb (vd va vb : VReg) (rc : Bool) (s : State) : Result :=
  writeVrCr6 s vd rc (compareSigned 8 (s.getVr va) (s.getVr vb))

/-- `vcmpgtsh`, Vector Compare Greater-Than Signed Half Word (R205). -/
def execVcmpgtsh (vd va vb : VReg) (rc : Bool) (s : State) : Result :=
  writeVrCr6 s vd rc (compareSigned 16 (s.getVr va) (s.getVr vb))

/-- `vcmpgtsw`, Vector Compare Greater-Than Signed Word (R206). -/
def execVcmpgtsw (vd va vb : VReg) (rc : Bool) (s : State) : Result :=
  writeVrCr6 s vd rc (compareSigned 32 (s.getVr va) (s.getVr vb))

/-- `vcmpgtub`, Vector Compare Greater-Than Unsigned Byte (R207). -/
def execVcmpgtub (vd va vb : VReg) (rc : Bool) (s : State) : Result :=
  writeVrCr6 s vd rc (compareUnsigned 8 (s.getVr va) (s.getVr vb))

/-- `vcmpgtuh`, Vector Compare Greater-Than Unsigned Half Word (R208). -/
def execVcmpgtuh (vd va vb : VReg) (rc : Bool) (s : State) : Result :=
  writeVrCr6 s vd rc (compareUnsigned 16 (s.getVr va) (s.getVr vb))

/-- `vcmpgtuw`, Vector Compare Greater-Than Unsigned Word (R209). -/
def execVcmpgtuw (vd va vb : VReg) (rc : Bool) (s : State) : Result :=
  writeVrCr6 s vd rc (compareUnsigned 32 (s.getVr va) (s.getVr vb))

end Sys2Proof.Machine
end

