-- ==== Sys2Proof/Machine/Float.lean ====
section
/-! DEFINITION. Floating point (49_float.md). Only `vctsxs` and `vctuxs` touch a status bit (R325). -/

namespace Sys2Proof.Machine

/-! Shared operations. The elements are four words (R320). -/

/-- Word `k` of a vector after the operand flush of R321. -/
def flushedWord (s : State) (x : Vec) (k : Nat) : Word := s.flushNJ (elem 32 x k)

/-- An operation of two operands, operands flushed; the NaN is that of the operands after the flush (R321 to R323). -/
def fpMap2 (s : State) (op : FpOp) (f : Word → Word → Word → Word) (a b : Vec) (k : Nat) : Word :=
  f (s.nanWord op [flushedWord s a k, flushedWord s b k]) (flushedWord s a k) (flushedWord s b k)

/-- A multiply-add, operands flushed: `f` takes the NaN, vA, vC and vB; the NaN is chosen in the order vA, vB, vC. -/
def fpMap3 (s : State) (op : FpOp) (f : Word → Word → Word → Word → Word) (a c b : Vec) (k : Nat) : Word :=
  f (s.nanWord op [flushedWord s a k, flushedWord s b k, flushedWord s c k])
    (flushedWord s a k) (flushedWord s c k) (flushedWord s b k)

/-- A floating-point compare, operands flushed, of group (b) or (d) of R321. -/
def fpCompare (s : State) (f : Word → Word → Bool) (a b : Vec) : Vec × BitVec 4 :=
  compared 32 fun k => f (flushedWord s a k) (flushedWord s b k)

/-- One element of `vcmpbfp`: above the bound, below the negated bound, 30 zeros (R332). -/
def fpBounds (a b : Word) : Word :=
  BitVec.ofBool (!fpLe a b) ++ BitVec.ofBool (!fpGe a (fpNeg b)) ++ 0#30

/-- The elements of `vcmpbfp` (R332). -/
def fpBoundsVec (s : State) (a b : Vec) : Vec :=
  vecOf 32 fun k => fpBounds (flushedWord s a k) (flushedWord s b k)

/-- Rounding to an integral value with the operand flush, `vrfim` and `vrfip` (R340, R342). -/
def fpRoundFlushed (s : State) (op : FpOp) (dir : RoundDirection) (b : Vec) : Vec :=
  vecOf 32 fun k => fpRoundIntegral (s.nanWord op [flushedWord s b k]) dir (flushedWord s b k)

/-- Rounding to an integral value whatever NJ is, `vrfin` and `vrfiz` (R341, R343). -/
def fpRoundPlain (s : State) (op : FpOp) (dir : RoundDirection) (b : Vec) : Vec :=
  vecOf 32 fun k => fpRoundIntegral (s.nanWord op [elem 32 b k]) dir (elem 32 b k)

/-- An estimate, operand flushed: `f` takes the NaN, the free word and the operand (R344). -/
def fpEstimate (s : State) (op : FpOp) (free : Nat → Nat → Word → Word) (f : Word → Word → Word → Word) (b : Vec)
    (k : Nat) : Word :=
  f (s.nanWord op [flushedWord s b k]) (free s.fresh k (flushedWord s b k)) (flushedWord s b k)

/-! Meanings. -/

/-- `vaddfp`, Vector Add Floating Point (R326). -/
def execVaddfp (vd va vb : VReg) (s : State) : Result :=
  writeVr s vd (vecOf 32 fun k => s.flushNJ (fpMap2 s .add fpAdd (s.getVr va) (s.getVr vb) k))

/-- `vsubfp`, Vector Subtract Floating Point (R327). -/
def execVsubfp (vd va vb : VReg) (s : State) : Result :=
  writeVr s vd (vecOf 32 fun k => s.flushNJ (fpMap2 s .sub fpSub (s.getVr va) (s.getVr vb) k))

/-- `vmaddfp`, Vector Multiply Add Floating Point (R328). -/
def execVmaddfp (vd va vc vb : VReg) (s : State) : Result :=
  writeVr s vd (vecOf 32 fun k =>
    s.flushNJ (fpMap3 s .madd fpMulAdd (s.getVr va) (s.getVr vc) (s.getVr vb) k))

/-- `vnmsubfp`, Vector Negative Multiply-Subtract Floating Point (R329). -/
def execVnmsubfp (vd va vc vb : VReg) (s : State) : Result :=
  writeVr s vd (vecOf 32 fun k =>
    s.flushNJ (fpMap3 s .nmsub fpNegMulSub (s.getVr va) (s.getVr vc) (s.getVr vb) k))

/-- `vmaxfp`, Vector Maximum Floating Point (R330, D18). -/
def execVmaxfp (vd va vb : VReg) (s : State) : Result :=
  writeVr s vd (vecOf 32 (fpMap2 s .max fpMax (s.getVr va) (s.getVr vb)))

/-- `vminfp`, Vector Minimum Floating Point (R331, D18). -/
def execVminfp (vd va vb : VReg) (s : State) : Result :=
  writeVr s vd (vecOf 32 (fpMap2 s .min fpMin (s.getVr va) (s.getVr vb)))

/-- `vcmpbfp`, Vector Compare Bounds Floating Point (R332). -/
def execVcmpbfp (vd va vb : VReg) (rc : Bool) (s : State) : Result :=
  writeVrCr6 s vd rc (fpBoundsVec s (s.getVr va) (s.getVr vb), cr6OfBounds (fpBoundsVec s (s.getVr va) (s.getVr vb)))

/-- `vcmpeqfp`, Vector Compare Equal-to-Floating Point (R333). -/
def execVcmpeqfp (vd va vb : VReg) (rc : Bool) (s : State) : Result :=
  writeVrCr6 s vd rc (fpCompare s fpEq (s.getVr va) (s.getVr vb))

/-- `vcmpgefp`, Vector Compare Greater-Than-or-Equal-to Floating Point (R334). -/
def execVcmpgefp (vd va vb : VReg) (rc : Bool) (s : State) : Result :=
  writeVrCr6 s vd rc (fpCompare s fpGe (s.getVr va) (s.getVr vb))

/-- `vcmpgtfp`, Vector Compare Greater-Than Floating-Point (R335). -/
def execVcmpgtfp (vd va vb : VReg) (rc : Bool) (s : State) : Result :=
  writeVrCr6 s vd rc (fpCompare s fpGt (s.getVr va) (s.getVr vb))

/-- `vcfsx`, Vector Convert from Signed Fixed-Point Word (R336). -/
def execVcfsx (vd vb : VReg) (uimm : BitVec 5) (s : State) : Result :=
  writeVr s vd (vecOf 32 fun k => fpOfInt (sint (elem 32 (s.getVr vb) k)) uimm.toNat)

/-- `vcfux`, Vector Convert from Unsigned Fixed-Point Word (R337). -/
def execVcfux (vd vb : VReg) (uimm : BitVec 5) (s : State) : Result :=
  writeVr s vd (vecOf 32 fun k => fpOfInt (uint (elem 32 (s.getVr vb) k)) uimm.toNat)

/-- `vctsxs`, Vector Convert to Signed Fixed-Point Word Saturate (R338, D19, D22). -/
def execVctsxs (vd vb : VReg) (uimm : BitVec 5) (s : State) : Result :=
  writeVrSat s vd (vecOfSat 32 fun k => fpToSigned (elem 32 (s.getVr vb) k) uimm.toNat)

/-- `vctuxs`, Vector Convert to Unsigned Fixed-Point Word Saturate (R339, D19, D22). -/
def execVctuxs (vd vb : VReg) (uimm : BitVec 5) (s : State) : Result :=
  writeVrSat s vd (vecOfSat 32 fun k => fpToUnsigned (elem 32 (s.getVr vb) k) uimm.toNat)

/-- `vrfim`, Vector Round to Floating-Point Integer toward Minus Infinity (R340). -/
def execVrfim (vd vb : VReg) (s : State) : Result :=
  writeVr s vd (fpRoundFlushed s .roundMinus .minus (s.getVr vb))

/-- `vrfin`, Vector Round to Floating-Point Integer Nearest (R341). -/
def execVrfin (vd vb : VReg) (s : State) : Result :=
  writeVr s vd (fpRoundPlain s .roundNearest .nearest (s.getVr vb))

/-- `vrfip`, Vector Round to Floating-Point Integer toward Plus Infinity (R342). -/
def execVrfip (vd vb : VReg) (s : State) : Result :=
  writeVr s vd (fpRoundFlushed s .roundPlus .plus (s.getVr vb))

/-- `vrfiz`, Vector Round to Floating-Point Integer toward Zero (R343). -/
def execVrfiz (vd vb : VReg) (s : State) : Result :=
  writeVr s vd (fpRoundPlain s .roundZero .zero (s.getVr vb))

/-- `vexptefp`, Vector 2 Raised to the Exponent Estimate Floating Point (R346, U7). -/
def execVexptefp (vd vb : VReg) (s : State) : Result :=
  writeVrDrawn s vd (vecOf 32 fun k => s.flushNJ (fpEstimate s .expEstimate Config.est2Pow fpPower (s.getVr vb) k))

/-- `vlogefp`, Vector Log2 Estimate Floating Point (R347, U7). -/
def execVlogefp (vd vb : VReg) (s : State) : Result :=
  writeVrDrawn s vd (vecOf 32 fun k => s.flushNJ (fpEstimate s .logEstimate Config.estLog2 fpLog (s.getVr vb) k))

/-- `vrefp`, Vector Reciprocal Estimate Floating Point (R348, U7). -/
def execVrefp (vd vb : VReg) (s : State) : Result :=
  writeVrDrawn s vd (vecOf 32 fun k => s.flushNJ (fpEstimate s .recipEstimate Config.estRecip fpRecip (s.getVr vb) k))

/-- `vrsqrtefp`, Vector Reciprocal Square Root Estimate Floating Point (R349, U7). -/
def execVrsqrtefp (vd vb : VReg) (s : State) : Result :=
  writeVrDrawn s vd (vecOf 32 fun k => fpEstimate s .rsqrtEstimate Config.estRsqrt fpRsqrt (s.getVr vb) k)

end Sys2Proof.Machine
end

