-- ==== Sys2Proof/Machine/IntAddSub.lean ====
section
/-! DEFINITION. Integer add and subtract (43_int_add_sub.md). No carry between elements (R150). -/

namespace Sys2Proof.Machine

/-! Shared operations, by element width. -/

/-- Sums modulo `2^w` (R155, R157, R159). -/
def addModulo (w : Nat) (a b : Vec) : Vec := vecOf w fun k => trunc w (uint (elem w a k) + uint (elem w b k))

/-- Signed sums, clamped (R152 to R154). -/
def addSigned (w : Nat) (a b : Vec) : Vec × Bool := vecOfSat w fun k => satS w (sint (elem w a k) + sint (elem w b k))

/-- Unsigned sums, clamped (R156, R158, R160). -/
def addUnsigned (w : Nat) (a b : Vec) : Vec × Bool :=
  vecOfSat w fun k => satU w (uint (elem w a k) + uint (elem w b k))

/-- Carries out of unsigned sums (R151). -/
def addCarry (w : Nat) (a b : Vec) : Vec :=
  vecOf w fun k => if ((2 ^ w : Nat) : Int) ≤ uint (elem w a k) + uint (elem w b k) then 1 else 0

/-- Differences modulo `2^w` (R165, R167, R169). -/
def subModulo (w : Nat) (a b : Vec) : Vec := vecOf w fun k => trunc w (uint (elem w a k) - uint (elem w b k))

/-- Signed differences, clamped (R162 to R164). -/
def subSigned (w : Nat) (a b : Vec) : Vec × Bool := vecOfSat w fun k => satS w (sint (elem w a k) - sint (elem w b k))

/-- Unsigned differences, clamped (R166, R168, R170). -/
def subUnsigned (w : Nat) (a b : Vec) : Vec × Bool :=
  vecOfSat w fun k => satU w (uint (elem w a k) - uint (elem w b k))

/-- The complements of the borrows of unsigned differences (R161). -/
def subCarry (w : Nat) (a b : Vec) : Vec :=
  vecOf w fun k => if uint (elem w b k) ≤ uint (elem w a k) then 1 else 0

/-! Meanings. -/

/-- `vaddcuw`, Vector Add Carryout Unsigned Word (R151). -/
def execVaddcuw (vd va vb : VReg) (s : State) : Result :=
  writeVr s vd (addCarry 32 (s.getVr va) (s.getVr vb))

/-- `vaddsbs`, Vector Add Signed Byte Saturate (R152). -/
def execVaddsbs (vd va vb : VReg) (s : State) : Result :=
  writeVrSat s vd (addSigned 8 (s.getVr va) (s.getVr vb))

/-- `vaddshs`, Vector Add Signed Half Word Saturate (R153). -/
def execVaddshs (vd va vb : VReg) (s : State) : Result :=
  writeVrSat s vd (addSigned 16 (s.getVr va) (s.getVr vb))

/-- `vaddsws`, Vector Add Signed Word Saturate (R154). -/
def execVaddsws (vd va vb : VReg) (s : State) : Result :=
  writeVrSat s vd (addSigned 32 (s.getVr va) (s.getVr vb))

/-- `vaddubm`, Vector Add Unsigned Byte Modulo (R155). -/
def execVaddubm (vd va vb : VReg) (s : State) : Result :=
  writeVr s vd (addModulo 8 (s.getVr va) (s.getVr vb))

/-- `vaddubs`, Vector Add Unsigned Byte Saturate (R156). -/
def execVaddubs (vd va vb : VReg) (s : State) : Result :=
  writeVrSat s vd (addUnsigned 8 (s.getVr va) (s.getVr vb))

/-- `vadduhm`, Vector Add Unsigned Half Word Modulo (R157). -/
def execVadduhm (vd va vb : VReg) (s : State) : Result :=
  writeVr s vd (addModulo 16 (s.getVr va) (s.getVr vb))

/-- `vadduhs`, Vector Add Unsigned Half Word Saturate (R158). -/
def execVadduhs (vd va vb : VReg) (s : State) : Result :=
  writeVrSat s vd (addUnsigned 16 (s.getVr va) (s.getVr vb))

/-- `vadduwm`, Vector Add Unsigned Word Modulo (R159). -/
def execVadduwm (vd va vb : VReg) (s : State) : Result :=
  writeVr s vd (addModulo 32 (s.getVr va) (s.getVr vb))

/-- `vadduws`, Vector Add Unsigned Word Saturate (R160). -/
def execVadduws (vd va vb : VReg) (s : State) : Result :=
  writeVrSat s vd (addUnsigned 32 (s.getVr va) (s.getVr vb))

/-- `vsubcuw`, Vector Subtract Carryout Unsigned Word (R161). -/
def execVsubcuw (vd va vb : VReg) (s : State) : Result :=
  writeVr s vd (subCarry 32 (s.getVr va) (s.getVr vb))

/-- `vsubsbs`, Vector Subtract Signed Byte Saturate (R162). -/
def execVsubsbs (vd va vb : VReg) (s : State) : Result :=
  writeVrSat s vd (subSigned 8 (s.getVr va) (s.getVr vb))

/-- `vsubshs`, Vector Subtract Signed Half Word Saturate (R163). -/
def execVsubshs (vd va vb : VReg) (s : State) : Result :=
  writeVrSat s vd (subSigned 16 (s.getVr va) (s.getVr vb))

/-- `vsubsws`, Vector Subtract Signed Word Saturate (R164). -/
def execVsubsws (vd va vb : VReg) (s : State) : Result :=
  writeVrSat s vd (subSigned 32 (s.getVr va) (s.getVr vb))

/-- `vsububm`, Vector Subtract Unsigned Byte Modulo (R165). -/
def execVsububm (vd va vb : VReg) (s : State) : Result :=
  writeVr s vd (subModulo 8 (s.getVr va) (s.getVr vb))

/-- `vsububs`, Vector Subtract Unsigned Byte Saturate (R166). -/
def execVsububs (vd va vb : VReg) (s : State) : Result :=
  writeVrSat s vd (subUnsigned 8 (s.getVr va) (s.getVr vb))

/-- `vsubuhm`, Vector Subtract Unsigned Half Word Modulo (R167). -/
def execVsubuhm (vd va vb : VReg) (s : State) : Result :=
  writeVr s vd (subModulo 16 (s.getVr va) (s.getVr vb))

/-- `vsubuhs`, Vector Subtract Unsigned Half Word Saturate (R168). -/
def execVsubuhs (vd va vb : VReg) (s : State) : Result :=
  writeVrSat s vd (subUnsigned 16 (s.getVr va) (s.getVr vb))

/-- `vsubuwm`, Vector Subtract Unsigned Word Modulo (R169). -/
def execVsubuwm (vd va vb : VReg) (s : State) : Result :=
  writeVr s vd (subModulo 32 (s.getVr va) (s.getVr vb))

/-- `vsubuws`, Vector Subtract Unsigned Word Saturate (R170). -/
def execVsubuws (vd va vb : VReg) (s : State) : Result :=
  writeVrSat s vd (subUnsigned 32 (s.getVr va) (s.getVr vb))

end Sys2Proof.Machine
end

