-- ==== Sys2Proof/Machine/IntAvgMinMax.lean ====
section
/-! DEFINITION. Integer average, maximum, minimum (44_int_avg_minmax.md). No flag is written (R180). -/

namespace Sys2Proof.Machine

/-! Shared operations, by element width. -/

/-- Rounded-up averages of signed elements (R181 to R183). -/
def avgSigned (w : Nat) (a b : Vec) : Vec :=
  vecOf w fun k => trunc w ((sint (elem w a k) + sint (elem w b k) + 1).fdiv 2)

/-- Rounded-up averages of unsigned elements (R184 to R186). -/
def avgUnsigned (w : Nat) (a b : Vec) : Vec :=
  vecOf w fun k => trunc w ((uint (elem w a k) + uint (elem w b k) + 1).fdiv 2)

/-- The larger of signed elements (R187 to R189). -/
def maxSigned (w : Nat) (a b : Vec) : Vec :=
  vecOf w fun k => if sint (elem w b k) ≤ sint (elem w a k) then elem w a k else elem w b k

/-- The larger of unsigned elements (R190 to R192). -/
def maxUnsigned (w : Nat) (a b : Vec) : Vec :=
  vecOf w fun k => if uint (elem w b k) ≤ uint (elem w a k) then elem w a k else elem w b k

/-- The smaller of signed elements (R193 to R195). -/
def minSigned (w : Nat) (a b : Vec) : Vec :=
  vecOf w fun k => if sint (elem w a k) < sint (elem w b k) then elem w a k else elem w b k

/-- The smaller of unsigned elements (R196 to R198). -/
def minUnsigned (w : Nat) (a b : Vec) : Vec :=
  vecOf w fun k => if uint (elem w a k) < uint (elem w b k) then elem w a k else elem w b k

/-! Meanings. -/

/-- `vavgsb`, Vector Average Signed Byte (R181). -/
def execVavgsb (vd va vb : VReg) (s : State) : Result :=
  writeVr s vd (avgSigned 8 (s.getVr va) (s.getVr vb))

/-- `vavgsh`, Vector Average Signed Half Word (R182). -/
def execVavgsh (vd va vb : VReg) (s : State) : Result :=
  writeVr s vd (avgSigned 16 (s.getVr va) (s.getVr vb))

/-- `vavgsw`, Vector Average Signed Word (R183). -/
def execVavgsw (vd va vb : VReg) (s : State) : Result :=
  writeVr s vd (avgSigned 32 (s.getVr va) (s.getVr vb))

/-- `vavgub`, Vector Average Unsigned Byte (R184). -/
def execVavgub (vd va vb : VReg) (s : State) : Result :=
  writeVr s vd (avgUnsigned 8 (s.getVr va) (s.getVr vb))

/-- `vavguh`, Vector Average Unsigned Half Word (R185). -/
def execVavguh (vd va vb : VReg) (s : State) : Result :=
  writeVr s vd (avgUnsigned 16 (s.getVr va) (s.getVr vb))

/-- `vavguw`, Vector Average Unsigned Word (R186). -/
def execVavguw (vd va vb : VReg) (s : State) : Result :=
  writeVr s vd (avgUnsigned 32 (s.getVr va) (s.getVr vb))

/-- `vmaxsb`, Vector Maximum Signed Byte (R187). -/
def execVmaxsb (vd va vb : VReg) (s : State) : Result :=
  writeVr s vd (maxSigned 8 (s.getVr va) (s.getVr vb))

/-- `vmaxsh`, Vector Maximum Signed Half Word (R188). -/
def execVmaxsh (vd va vb : VReg) (s : State) : Result :=
  writeVr s vd (maxSigned 16 (s.getVr va) (s.getVr vb))

/-- `vmaxsw`, Vector Maximum Signed Word (R189). -/
def execVmaxsw (vd va vb : VReg) (s : State) : Result :=
  writeVr s vd (maxSigned 32 (s.getVr va) (s.getVr vb))

/-- `vmaxub`, Vector Maximum Unsigned Byte (R190). -/
def execVmaxub (vd va vb : VReg) (s : State) : Result :=
  writeVr s vd (maxUnsigned 8 (s.getVr va) (s.getVr vb))

/-- `vmaxuh`, Vector Maximum Unsigned Half Word (R191). -/
def execVmaxuh (vd va vb : VReg) (s : State) : Result :=
  writeVr s vd (maxUnsigned 16 (s.getVr va) (s.getVr vb))

/-- `vmaxuw`, Vector Maximum Unsigned Word (R192). -/
def execVmaxuw (vd va vb : VReg) (s : State) : Result :=
  writeVr s vd (maxUnsigned 32 (s.getVr va) (s.getVr vb))

/-- `vminsb`, Vector Minimum Signed Byte (R193). -/
def execVminsb (vd va vb : VReg) (s : State) : Result :=
  writeVr s vd (minSigned 8 (s.getVr va) (s.getVr vb))

/-- `vminsh`, Vector Minimum Signed Half Word (R194). -/
def execVminsh (vd va vb : VReg) (s : State) : Result :=
  writeVr s vd (minSigned 16 (s.getVr va) (s.getVr vb))

/-- `vminsw`, Vector Minimum Signed Word (R195). -/
def execVminsw (vd va vb : VReg) (s : State) : Result :=
  writeVr s vd (minSigned 32 (s.getVr va) (s.getVr vb))

/-- `vminub`, Vector Minimum Unsigned Byte (R196). -/
def execVminub (vd va vb : VReg) (s : State) : Result :=
  writeVr s vd (minUnsigned 8 (s.getVr va) (s.getVr vb))

/-- `vminuh`, Vector Minimum Unsigned Half Word (R197). -/
def execVminuh (vd va vb : VReg) (s : State) : Result :=
  writeVr s vd (minUnsigned 16 (s.getVr va) (s.getVr vb))

/-- `vminuw`, Vector Minimum Unsigned Word (R198). -/
def execVminuw (vd va vb : VReg) (s : State) : Result :=
  writeVr s vd (minUnsigned 32 (s.getVr va) (s.getVr vb))

end Sys2Proof.Machine
end

