-- ==== Sys2Proof/Machine/IntMulSum.lean ====
section
/-! DEFINITION. Integer multiply, multiply-add, multiply-sum, sum across (46_int_multiply_sum.md): exact integer arithmetic, clamped
once where the form saturates (R220). -/

namespace Sys2Proof.Machine

/-! Shared operations. -/

/-- The high 17 bits of each signed halfword product plus `round`, plus the addend, clamped (R221, R222). -/
def multiplyHighAdd (round : Int) (a b c : Vec) : Vec × Bool :=
  vecOfSat 16 fun k =>
    satS 16 ((sint (elem 16 a k) * sint (elem 16 b k) + round).fdiv (2 ^ 15) + sint (elem 16 c k))

/-- The sum of the products of the four bytes of a word, read by `ra` and `rb` (R224, R227). -/
def byteProducts (ra rb : Byte → Int) (a b : Vec) (k : Nat) : Int :=
  sumTo 4 fun j => ra (elem 8 a (4 * k + j)) * rb (elem 8 b (4 * k + j))

/-- The sum of the products of the two halfwords of a word (R225, R226, R228, R229). -/
def halfProducts (r : Half → Int) (a b : Vec) (k : Nat) : Int :=
  sumTo 2 fun j => r (elem 16 a (2 * k + j)) * r (elem 16 b (2 * k + j))

/-- Products of the elements `2k + odd`, twice as wide (R230 to R237). -/
def multiplyElements (w : Nat) (r : BitVec w → Int) (odd : Nat) (a b : Vec) : Vec :=
  vecOf (2 * w) fun k => trunc (2 * w) (r (elem w a (2 * k + odd)) * r (elem w b (2 * k + odd)))

/-- The sum of the `n` elements of `w` bits that word `k` spans (R240 to R242). -/
def elementSum (w n : Nat) (r : BitVec w → Int) (a : Vec) (k : Nat) : Int :=
  sumTo n fun j => r (elem w a (n * k + j))

/-- The clamped sum of the four words of `a` and word 3 of `b` (R238). -/
def sumAcrossAll (a b : Vec) : Word × Bool :=
  satS 32 (sint (elem 32 b 3) + sumTo 4 fun j => sint (elem 32 a j))

/-- The clamped sum of two words of `a` and one word of `b` (R239). -/
def sumAcrossHalf (a b : Vec) (h : Nat) : Word × Bool :=
  satS 32 (sint (elem 32 b (2 * h + 1)) + sint (elem 32 a (2 * h)) + sint (elem 32 a (2 * h + 1)))

/-! Meanings. -/

/-- `vmhaddshs`, Vector Multiply High and Add Signed Half Word Saturate (R221). -/
def execVmhaddshs (vd va vb vc : VReg) (s : State) : Result :=
  writeVrSat s vd (multiplyHighAdd 0 (s.getVr va) (s.getVr vb) (s.getVr vc))

/-- `vmhraddshs`, Vector Multiply High Round and Add Signed Half Word Saturate (R222). -/
def execVmhraddshs (vd va vb vc : VReg) (s : State) : Result :=
  writeVrSat s vd (multiplyHighAdd 0x4000 (s.getVr va) (s.getVr vb) (s.getVr vc))

/-- `vmladduhm`, Vector Multiply Low and Add Unsigned Half Word Modulo (R223). -/
def execVmladduhm (vd va vb vc : VReg) (s : State) : Result :=
  writeVr s vd (vecOf 16 fun k =>
    trunc 16 (uint (elem 16 (s.getVr va) k) * uint (elem 16 (s.getVr vb) k) + uint (elem 16 (s.getVr vc) k)))

/-- `vmsummbm`, Vector Multiply Sum Mixed-Sign Byte Modulo (R224). -/
def execVmsummbm (vd va vb vc : VReg) (s : State) : Result :=
  writeVr s vd (vecOf 32 fun k =>
    trunc 32 (sint (elem 32 (s.getVr vc) k) + byteProducts sint uint (s.getVr va) (s.getVr vb) k))

/-- `vmsumshm`, Vector Multiply Sum Signed Half Word Modulo (R225). -/
def execVmsumshm (vd va vb vc : VReg) (s : State) : Result :=
  writeVr s vd (vecOf 32 fun k =>
    trunc 32 (sint (elem 32 (s.getVr vc) k) + halfProducts sint (s.getVr va) (s.getVr vb) k))

/-- `vmsumshs`, Vector Multiply Sum Signed Half Word Saturate (R226). -/
def execVmsumshs (vd va vb vc : VReg) (s : State) : Result :=
  writeVrSat s vd (vecOfSat 32 fun k =>
    satS 32 (sint (elem 32 (s.getVr vc) k) + halfProducts sint (s.getVr va) (s.getVr vb) k))

/-- `vmsumubm`, Vector Multiply Sum Unsigned Byte Modulo (R227). -/
def execVmsumubm (vd va vb vc : VReg) (s : State) : Result :=
  writeVr s vd (vecOf 32 fun k =>
    trunc 32 (uint (elem 32 (s.getVr vc) k) + byteProducts uint uint (s.getVr va) (s.getVr vb) k))

/-- `vmsumuhm`, Vector Multiply Sum Unsigned Half Word Modulo (R228). -/
def execVmsumuhm (vd va vb vc : VReg) (s : State) : Result :=
  writeVr s vd (vecOf 32 fun k =>
    trunc 32 (uint (elem 32 (s.getVr vc) k) + halfProducts uint (s.getVr va) (s.getVr vb) k))

/-- `vmsumuhs`, Vector Multiply Sum Unsigned Half Word Saturate (R229). -/
def execVmsumuhs (vd va vb vc : VReg) (s : State) : Result :=
  writeVrSat s vd (vecOfSat 32 fun k =>
    satU 32 (uint (elem 32 (s.getVr vc) k) + halfProducts uint (s.getVr va) (s.getVr vb) k))

/-- `vmulesb`, Vector Multiply Even Signed Byte (R230). -/
def execVmulesb (vd va vb : VReg) (s : State) : Result :=
  writeVr s vd (multiplyElements 8 sint 0 (s.getVr va) (s.getVr vb))

/-- `vmulesh`, Vector Multiply Even Signed Half Word (R231). -/
def execVmulesh (vd va vb : VReg) (s : State) : Result :=
  writeVr s vd (multiplyElements 16 sint 0 (s.getVr va) (s.getVr vb))

/-- `vmuleub`, Vector Multiply Even Unsigned Byte (R232). -/
def execVmuleub (vd va vb : VReg) (s : State) : Result :=
  writeVr s vd (multiplyElements 8 uint 0 (s.getVr va) (s.getVr vb))

/-- `vmuleuh`, Vector Multiply Even Unsigned Half Word (R233). -/
def execVmuleuh (vd va vb : VReg) (s : State) : Result :=
  writeVr s vd (multiplyElements 16 uint 0 (s.getVr va) (s.getVr vb))

/-- `vmulosb`, Vector Multiply Odd Signed Byte (R234). -/
def execVmulosb (vd va vb : VReg) (s : State) : Result :=
  writeVr s vd (multiplyElements 8 sint 1 (s.getVr va) (s.getVr vb))

/-- `vmulosh`, Vector Multiply Odd Signed Half Word (R235). -/
def execVmulosh (vd va vb : VReg) (s : State) : Result :=
  writeVr s vd (multiplyElements 16 sint 1 (s.getVr va) (s.getVr vb))

/-- `vmuloub`, Vector Multiply Odd Unsigned Byte (R236). -/
def execVmuloub (vd va vb : VReg) (s : State) : Result :=
  writeVr s vd (multiplyElements 8 uint 1 (s.getVr va) (s.getVr vb))

/-- `vmulouh`, Vector Multiply Odd Unsigned Half Word (R237). -/
def execVmulouh (vd va vb : VReg) (s : State) : Result :=
  writeVr s vd (multiplyElements 16 uint 1 (s.getVr va) (s.getVr vb))

/-- `vsumsws`, Vector Sum Across Signed Word Saturate (R238). -/
def execVsumsws (vd va vb : VReg) (s : State) : Result :=
  writeVrSat s vd (0#96 ++ (sumAcrossAll (s.getVr va) (s.getVr vb)).1,
    (sumAcrossAll (s.getVr va) (s.getVr vb)).2)

/-- `vsum2sws`, Vector Sum Across Partial (1/2) Signed Word Saturate (R239). -/
def execVsum2sws (vd va vb : VReg) (s : State) : Result :=
  writeVrSat s vd (vecOfSat 32 fun k =>
    if k % 2 = 1 then sumAcrossHalf (s.getVr va) (s.getVr vb) (k / 2) else (0, false))

/-- `vsum4sbs`, Vector Sum Across Partial (1/4) Signed Byte Saturate (R240). -/
def execVsum4sbs (vd va vb : VReg) (s : State) : Result :=
  writeVrSat s vd (vecOfSat 32 fun k =>
    satS 32 (sint (elem 32 (s.getVr vb) k) + elementSum 8 4 sint (s.getVr va) k))

/-- `vsum4shs`, Vector Sum Across Partial (1/4) Signed Half Word Saturate (R241). -/
def execVsum4shs (vd va vb : VReg) (s : State) : Result :=
  writeVrSat s vd (vecOfSat 32 fun k =>
    satS 32 (sint (elem 32 (s.getVr vb) k) + elementSum 16 2 sint (s.getVr va) k))

/-- `vsum4ubs`, Vector Sum Across Partial (1/4) Unsigned Byte Saturate (R242). -/
def execVsum4ubs (vd va vb : VReg) (s : State) : Result :=
  writeVrSat s vd (vecOfSat 32 fun k =>
    satU 32 (uint (elem 32 (s.getVr vb) k) + elementSum 8 4 uint (s.getVr va) k))

end Sys2Proof.Machine
end

