-- ==== Sys2Proof/Machine/LoadStore.lean ====
section
/-! DEFINITION. The vector loads and stores and the alignment vectors (41_load_store.md). -/

namespace Sys2Proof.Machine

/-! Shared operations. -/

/-- An element load of `2^k` bytes at `ea`: the register becomes undefined but for the element (R120 to R122, U1). -/
def loadedElement (s : State) (ea : Word) (k : Nat) : Vec :=
  setElem (8 * 2 ^ k) s.undef (s.elementIndex ea k) (s.memRead (8 * 2 ^ k) ea.toNat (2 ^ k))

/-- `lvebx`, `lvehx`, `lvewx` at an address: the state after the load, or a `MemFault` (R65). -/
def loadElement (vd : VReg) (ea : Word) (k : Nat) (s : State) : Result :=
  access s ea (2 ^ k) .load (s.setVr vd (loadedElement s ea k)).draw

/-- `lvx`, `lvxl` at an address (R125). -/
def loadQuad (vd : VReg) (ea : Word) (s : State) : Result :=
  access s ea 16 .load (s.setVr vd (s.memReadQuad ea.toNat))

/-- `stvebx`, `stvehx`, `stvewx` at an address: only the element's bytes change (R127 to R129, R56). -/
def storeElement (vs : VReg) (ea : Word) (k : Nat) (s : State) : Result :=
  access s ea (2 ^ k) .store
    (s.memWrite ea.toNat (2 ^ k) (elem (8 * 2 ^ k) (s.getVr vs) (s.elementIndex ea k)))

/-- `stvx`, `stvxl` at an address (R130). -/
def storeQuad (vs : VReg) (ea : Word) (s : State) : Result :=
  access s ea 16 .store (s.memWriteQuad ea.toNat (s.getVr vs))

/-- The control vector of a left shift by `sh` bytes: byte `k` is `sh + k` (R123). -/
def shiftLeftControl (sh : Nat) : Vec := vecOf 8 fun k => trunc 8 ((sh + k : Nat) : Int)

/-- The control vector of a right shift by `sh` bytes: byte `k` is `16 - sh + k` (R124). -/
def shiftRightControl (sh : Nat) : Vec := vecOf 8 fun k => trunc 8 (16 - (sh : Int) + (k : Int))

/-! Meanings. -/

/-- `lvebx`, Load Vector Element Byte Indexed (R120, U1). -/
def execLvebx (vd : VReg) (ra rb : GReg) (s : State) : Result :=
  loadElement vd (s.effective ra rb 0) 0 s

/-- `lvehx`, Load Vector Element Half Word Indexed (R121, U1). -/
def execLvehx (vd : VReg) (ra rb : GReg) (s : State) : Result :=
  loadElement vd (s.effective ra rb 1) 1 s

/-- `lvewx`, Load Vector Element Word Indexed (R122, U1). -/
def execLvewx (vd : VReg) (ra rb : GReg) (s : State) : Result :=
  loadElement vd (s.effective ra rb 2) 2 s

/-- `lvsl`, Load Vector for Shift Left (R123). -/
def execLvsl (vd : VReg) (ra rb : GReg) (s : State) : Result :=
  writeVr s vd (shiftLeftControl (quadOffset (s.effective ra rb 0)))

/-- `lvsr`, Load Vector for Shift Right (R124). -/
def execLvsr (vd : VReg) (ra rb : GReg) (s : State) : Result :=
  writeVr s vd (shiftRightControl (quadOffset (s.effective ra rb 0)))

/-- `lvx`, Load Vector Indexed (R125). -/
def execLvx (vd : VReg) (ra rb : GReg) (s : State) : Result :=
  loadQuad vd (s.effective ra rb 4) s

/-- `lvxl`, Load Vector Indexed LRU (R126, R62). -/
def execLvxl (vd : VReg) (ra rb : GReg) (s : State) : Result :=
  loadQuad vd (s.effective ra rb 4) s

/-- `stvebx`, Store Vector Element Byte Indexed (R127). -/
def execStvebx (vs : VReg) (ra rb : GReg) (s : State) : Result :=
  storeElement vs (s.effective ra rb 0) 0 s

/-- `stvehx`, Store Vector Element Half Word Indexed (R128). -/
def execStvehx (vs : VReg) (ra rb : GReg) (s : State) : Result :=
  storeElement vs (s.effective ra rb 1) 1 s

/-- `stvewx`, Store Vector Element Word Indexed (R129). -/
def execStvewx (vs : VReg) (ra rb : GReg) (s : State) : Result :=
  storeElement vs (s.effective ra rb 2) 2 s

/-- `stvx`, Store Vector Indexed (R130). -/
def execStvx (vs : VReg) (ra rb : GReg) (s : State) : Result :=
  storeQuad vs (s.effective ra rb 4) s

/-- `stvxl`, Store Vector Indexed LRU (R131, R62). -/
def execStvxl (vs : VReg) (ra rb : GReg) (s : State) : Result :=
  storeQuad vs (s.effective ra rb 4) s

end Sys2Proof.Machine
end

