-- ==== Sys2Proof/Machine/Logical.lean ====
section
/-! DEFINITION. Logical, select, rotate, shift (47_logical_shift_rotate.md). No flag is written. -/

namespace Sys2Proof.Machine

/-! Shared operations. -/

/-- The count for element `k`: the low log2(w) bits of that element (R250). -/
def elementCount (w : Nat) (b : Vec) (k : Nat) : Nat := (elem w b k).toNat % w

/-- Elements rotated left (R257 to R259). -/
def rotateElements (w : Nat) (a b : Vec) : Vec := vecOf w fun k => (elem w a k).rotateLeft (elementCount w b k)

/-- Elements shifted left, zeros entering (R261, R263, R265). -/
def shiftLeftElements (w : Nat) (a b : Vec) : Vec := vecOf w fun k => elem w a k <<< elementCount w b k

/-- Elements shifted right, zeros entering (R270, R271, R273). -/
def shiftRightElements (w : Nat) (a b : Vec) : Vec := vecOf w fun k => elem w a k >>> elementCount w b k

/-- Elements shifted right, the sign bit entering (R267 to R269). -/
def shiftSignedElements (w : Nat) (a b : Vec) : Vec := vecOf w fun k => (elem w a k).sshiftRight (elementCount w b k)

/-- The count of `vsl` and `vsr`: bits 125:127 (R260, R266). -/
def bitCount (b : Vec) : Nat := (b.extractLsb' 0 3).toNat

/-- The low three bits of all bytes are the same, which `vsl` and `vsr` ask of `vB` (R260, R266). -/
def uniformCount (b : Vec) : Bool := (List.range 16).all fun k => (elem 8 b k).toNat % 8 == bitCount b

/-- The count of `vslo` and `vsro`: bits 121:124 (R264, R272). -/
def byteCount (b : Vec) : Nat := (b.extractLsb' 3 4).toNat

/-- The end of `vsl` and `vsr`: the shifted register, or a free value where the counts differ (R260, R266, U2). -/
def writeShifted (s : State) (vd : VReg) (b shifted : Vec) : Result :=
  if uniformCount b then writeVr s vd shifted else writeVrDrawn s vd s.undef

/-! Meanings. -/

/-- `vand`, Vector Logical AND (R251). -/
def execVand (vd va vb : VReg) (s : State) : Result :=
  writeVr s vd (s.getVr va &&& s.getVr vb)

/-- `vandc`, Vector Logical AND with Complement (R252). -/
def execVandc (vd va vb : VReg) (s : State) : Result :=
  writeVr s vd (s.getVr va &&& ~~~(s.getVr vb))

/-- `vnor`, Vector Logical NOR (R253). -/
def execVnor (vd va vb : VReg) (s : State) : Result :=
  writeVr s vd (~~~(s.getVr va ||| s.getVr vb))

/-- `vor`, Vector Logical OR (R254). -/
def execVor (vd va vb : VReg) (s : State) : Result :=
  writeVr s vd (s.getVr va ||| s.getVr vb)

/-- `vxor`, Vector Logical XOR (R255). -/
def execVxor (vd va vb : VReg) (s : State) : Result :=
  writeVr s vd (s.getVr va ^^^ s.getVr vb)

/-- `vsel`, Vector Conditional Select (R256). -/
def execVsel (vd va vb vc : VReg) (s : State) : Result :=
  writeVr s vd ((s.getVr va &&& ~~~(s.getVr vc)) ||| (s.getVr vb &&& s.getVr vc))

/-- `vrlb`, Vector Rotate Left Integer Byte (R257). -/
def execVrlb (vd va vb : VReg) (s : State) : Result :=
  writeVr s vd (rotateElements 8 (s.getVr va) (s.getVr vb))

/-- `vrlh`, Vector Rotate Left Integer Half Word (R258). -/
def execVrlh (vd va vb : VReg) (s : State) : Result :=
  writeVr s vd (rotateElements 16 (s.getVr va) (s.getVr vb))

/-- `vrlw`, Vector Rotate Left Integer Word (R259). -/
def execVrlw (vd va vb : VReg) (s : State) : Result :=
  writeVr s vd (rotateElements 32 (s.getVr va) (s.getVr vb))

/-- `vsl`, Vector Shift Left (R260, U2). -/
def execVsl (vd va vb : VReg) (s : State) : Result :=
  writeShifted s vd (s.getVr vb) (s.getVr va <<< bitCount (s.getVr vb))

/-- `vslb`, Vector Shift Left Integer Byte (R261). -/
def execVslb (vd va vb : VReg) (s : State) : Result :=
  writeVr s vd (shiftLeftElements 8 (s.getVr va) (s.getVr vb))

/-- `vsldoi`, Vector Shift Left Double by Octet Immediate (R262). -/
def execVsldoi (vd va vb : VReg) (shb : BitVec 4) (s : State) : Result :=
  writeVr s vd ((s.getVr va ++ s.getVr vb).extractLsb' (128 - 8 * shb.toNat) 128)

/-- `vslh`, Vector Shift Left Integer Half Word (R263). -/
def execVslh (vd va vb : VReg) (s : State) : Result :=
  writeVr s vd (shiftLeftElements 16 (s.getVr va) (s.getVr vb))

/-- `vslo`, Vector Shift Left by Octet (R264). -/
def execVslo (vd va vb : VReg) (s : State) : Result :=
  writeVr s vd (s.getVr va <<< (8 * byteCount (s.getVr vb)))

/-- `vslw`, Vector Shift Left Integer Word (R265). -/
def execVslw (vd va vb : VReg) (s : State) : Result :=
  writeVr s vd (shiftLeftElements 32 (s.getVr va) (s.getVr vb))

/-- `vsr`, Vector Shift Right (R266, U2). -/
def execVsr (vd va vb : VReg) (s : State) : Result :=
  writeShifted s vd (s.getVr vb) (s.getVr va >>> bitCount (s.getVr vb))

/-- `vsrab`, Vector Shift Right Algebraic Byte (R267). -/
def execVsrab (vd va vb : VReg) (s : State) : Result :=
  writeVr s vd (shiftSignedElements 8 (s.getVr va) (s.getVr vb))

/-- `vsrah`, Vector Shift Right Algebraic Half Word (R268). -/
def execVsrah (vd va vb : VReg) (s : State) : Result :=
  writeVr s vd (shiftSignedElements 16 (s.getVr va) (s.getVr vb))

/-- `vsraw`, Vector Shift Right Algebraic Word (R269). -/
def execVsraw (vd va vb : VReg) (s : State) : Result :=
  writeVr s vd (shiftSignedElements 32 (s.getVr va) (s.getVr vb))

/-- `vsrb`, Vector Shift Right Byte (R270). -/
def execVsrb (vd va vb : VReg) (s : State) : Result :=
  writeVr s vd (shiftRightElements 8 (s.getVr va) (s.getVr vb))

/-- `vsrh`, Vector Shift Right Half Word (R271). -/
def execVsrh (vd va vb : VReg) (s : State) : Result :=
  writeVr s vd (shiftRightElements 16 (s.getVr va) (s.getVr vb))

/-- `vsro`, Vector Shift Right Octet (R272). -/
def execVsro (vd va vb : VReg) (s : State) : Result :=
  writeVr s vd (s.getVr va >>> (8 * byteCount (s.getVr vb)))

/-- `vsrw`, Vector Shift Right Word (R273). -/
def execVsrw (vd va vb : VReg) (s : State) : Result :=
  writeVr s vd (shiftRightElements 32 (s.getVr va) (s.getVr vb))

end Sys2Proof.Machine
end

