-- ==== Sys2Proof/Machine/Permute.lean ====
section
/-! DEFINITION. Merge, permute, pack, splat, unpack (48_permute_pack.md). -/

namespace Sys2Proof.Machine

/-! Shared operations. -/

/-- The elements from `start` on of `a` and `b`, interleaved (R281 to R286). -/
def mergeFrom (w start : Nat) (a b : Vec) : Vec :=
  vecOf w fun k => if k % 2 = 0 then elem w a (start + k / 2) else elem w b (start + k / 2)

/-- Each element of `a || b` of `2w` bits, narrowed by a clamp (R289 to R292, R294, R296). -/
def packSat (w : Nat) (clamp : Int → BitVec w × Bool) (r : BitVec (2 * w) → Int) (a b : Vec) : Vec × Bool :=
  vecOfSat w fun j => clamp (r (elemPair (2 * w) a b j))

/-- The low half of each element of `a || b` of `2w` bits (R293, R295). -/
def packModulo (w : Nat) (a b : Vec) : Vec := vecOf w fun j => (elemPair (2 * w) a b j).setWidth w

/-- A 32-bit pixel packed to 1 + 5 + 5 + 5 bits: its bits 7, 8:12, 16:20, 24:28 (R288). -/
def packPixel (x : Word) : Half := x.extractLsb' 24 1 ++ x.extractLsb' 19 5 ++ x.extractLsb' 11 5 ++ x.extractLsb' 3 5

/-- A 16-bit pixel unpacked to four channels of 8 bits (R303, R306). -/
def unpackPixel (h : Half) : Word :=
  (h.extractLsb' 15 1).signExtend 8 ++ (h.extractLsb' 10 5).setWidth 8 ++ (h.extractLsb' 5 5).setWidth 8 ++
    (h.extractLsb' 0 5).setWidth 8

/-- The same element everywhere (R297 to R302). -/
def splat (w : Nat) (x : BitVec w) : Vec := vecOf w fun _ => x

/-- The elements of `w` bits from `start` on, sign-extended to twice their width (R304, R305, R307, R308). -/
def unpackSigned (w start : Nat) (b : Vec) : Vec := vecOf (2 * w) fun k => (elem w b (start + k)).signExtend (2 * w)

/-- The pixels from halfword `start` on, unpacked (R303, R306). -/
def unpackPixels (start : Nat) (b : Vec) : Vec := vecOf 32 fun k => unpackPixel (elem 16 b (start + k))

/-! Meanings. -/

/-- `vmrghb`, Vector Merge High Byte (R281). -/
def execVmrghb (vd va vb : VReg) (s : State) : Result :=
  writeVr s vd (mergeFrom 8 0 (s.getVr va) (s.getVr vb))

/-- `vmrghh`, Vector Merge High Half Word (R282). -/
def execVmrghh (vd va vb : VReg) (s : State) : Result :=
  writeVr s vd (mergeFrom 16 0 (s.getVr va) (s.getVr vb))

/-- `vmrghw`, Vector Merge High Word (R283). -/
def execVmrghw (vd va vb : VReg) (s : State) : Result :=
  writeVr s vd (mergeFrom 32 0 (s.getVr va) (s.getVr vb))

/-- `vmrglb`, Vector Merge Low Byte (R284). -/
def execVmrglb (vd va vb : VReg) (s : State) : Result :=
  writeVr s vd (mergeFrom 8 8 (s.getVr va) (s.getVr vb))

/-- `vmrglh`, Vector Merge Low Half Word (R285). -/
def execVmrglh (vd va vb : VReg) (s : State) : Result :=
  writeVr s vd (mergeFrom 16 4 (s.getVr va) (s.getVr vb))

/-- `vmrglw`, Vector Merge Low Word (R286). -/
def execVmrglw (vd va vb : VReg) (s : State) : Result :=
  writeVr s vd (mergeFrom 32 2 (s.getVr va) (s.getVr vb))

/-- `vperm`, Vector Permute (R287). -/
def execVperm (vd va vb vc : VReg) (s : State) : Result :=
  writeVr s vd (vecOf 8 fun k =>
    elemPair 8 (s.getVr va) (s.getVr vb) ((elem 8 (s.getVr vc) k).toNat % 32))

/-- `vpkpx`, Vector Pack Pixel32 (R288). -/
def execVpkpx (vd va vb : VReg) (s : State) : Result :=
  writeVr s vd (vecOf 16 fun j => packPixel (elemPair 32 (s.getVr va) (s.getVr vb) j))

/-- `vpkshss`, Vector Pack Signed Half Word Signed Saturate (R289). -/
def execVpkshss (vd va vb : VReg) (s : State) : Result :=
  writeVrSat s vd (packSat 8 (satS 8) sint (s.getVr va) (s.getVr vb))

/-- `vpkshus`, Vector Pack Signed Half Word Unsigned Saturate (R290). -/
def execVpkshus (vd va vb : VReg) (s : State) : Result :=
  writeVrSat s vd (packSat 8 (satU 8) sint (s.getVr va) (s.getVr vb))

/-- `vpkswss`, Vector Pack Signed Word Signed Saturate (R291). -/
def execVpkswss (vd va vb : VReg) (s : State) : Result :=
  writeVrSat s vd (packSat 16 (satS 16) sint (s.getVr va) (s.getVr vb))

/-- `vpkswus`, Vector Pack Signed Word Unsigned Saturate (R292). -/
def execVpkswus (vd va vb : VReg) (s : State) : Result :=
  writeVrSat s vd (packSat 16 (satU 16) sint (s.getVr va) (s.getVr vb))

/-- `vpkuhum`, Vector Pack Unsigned Half Word Unsigned Modulo (R293). -/
def execVpkuhum (vd va vb : VReg) (s : State) : Result :=
  writeVr s vd (packModulo 8 (s.getVr va) (s.getVr vb))

/-- `vpkuhus`, Vector Pack Unsigned Half Word Unsigned Saturate (R294). -/
def execVpkuhus (vd va vb : VReg) (s : State) : Result :=
  writeVrSat s vd (packSat 8 (satU 8) uint (s.getVr va) (s.getVr vb))

/-- `vpkuwum`, Vector Pack Unsigned Word Unsigned Modulo (R295). -/
def execVpkuwum (vd va vb : VReg) (s : State) : Result :=
  writeVr s vd (packModulo 16 (s.getVr va) (s.getVr vb))

/-- `vpkuwus`, Vector Pack Unsigned Word Unsigned Saturate (R296). -/
def execVpkuwus (vd va vb : VReg) (s : State) : Result :=
  writeVrSat s vd (packSat 16 (satU 16) uint (s.getVr va) (s.getVr vb))

/-- `vspltb`, Vector Splat Byte (R297, D6). -/
def execVspltb (vd vb : VReg) (uimm : BitVec 5) (s : State) : Result :=
  whenOperandsAllowed (wfSpltb uimm) (writeVr s vd (splat 8 (elem 8 (s.getVr vb) uimm.toNat)))

/-- `vsplth`, Vector Splat Half Word (R298, D6). -/
def execVsplth (vd vb : VReg) (uimm : BitVec 5) (s : State) : Result :=
  whenOperandsAllowed (wfSplth uimm) (writeVr s vd (splat 16 (elem 16 (s.getVr vb) uimm.toNat)))

/-- `vspltisb`, Vector Splat Immediate Signed Byte (R299). -/
def execVspltisb (vd : VReg) (simm : BitVec 5) (s : State) : Result :=
  writeVr s vd (splat 8 (simm.signExtend 8))

/-- `vspltish`, Vector Splat Immediate Signed Half Word (R300). -/
def execVspltish (vd : VReg) (simm : BitVec 5) (s : State) : Result :=
  writeVr s vd (splat 16 (simm.signExtend 16))

/-- `vspltisw`, Vector Splat Immediate Signed Word (R301). -/
def execVspltisw (vd : VReg) (simm : BitVec 5) (s : State) : Result :=
  writeVr s vd (splat 32 (simm.signExtend 32))

/-- `vspltw`, Vector Splat Word (R302, D6). -/
def execVspltw (vd vb : VReg) (uimm : BitVec 5) (s : State) : Result :=
  whenOperandsAllowed (wfSpltw uimm) (writeVr s vd (splat 32 (elem 32 (s.getVr vb) uimm.toNat)))

/-- `vupkhpx`, Vector Unpack High Pixel16 (R303). -/
def execVupkhpx (vd vb : VReg) (s : State) : Result :=
  writeVr s vd (unpackPixels 0 (s.getVr vb))

/-- `vupkhsb`, Vector Unpack High Signed Byte (R304). -/
def execVupkhsb (vd vb : VReg) (s : State) : Result :=
  writeVr s vd (unpackSigned 8 0 (s.getVr vb))

/-- `vupkhsh`, Vector Unpack High Signed Half Word (R305). -/
def execVupkhsh (vd vb : VReg) (s : State) : Result :=
  writeVr s vd (unpackSigned 16 0 (s.getVr vb))

/-- `vupklpx`, Vector Unpack Low Pixel16 (R306). -/
def execVupklpx (vd vb : VReg) (s : State) : Result :=
  writeVr s vd (unpackPixels 4 (s.getVr vb))

/-- `vupklsb`, Vector Unpack Low Signed Byte (R307). -/
def execVupklsb (vd vb : VReg) (s : State) : Result :=
  writeVr s vd (unpackSigned 8 8 (s.getVr vb))

/-- `vupklsh`, Vector Unpack Low Signed Half Word (R308). -/
def execVupklsh (vd vb : VReg) (s : State) : Result :=
  writeVr s vd (unpackSigned 16 4 (s.getVr vb))

end Sys2Proof.Machine
end

