-- ==== Sys2Proof/Machine/Vscr.lean ====
section
/-! DEFINITION. The VSCR moves (42_vscr_move.md). -/

namespace Sys2Proof.Machine

/-- `mfvscr`, Move from Vector Status and Control Register (R140). -/
def execMfvscr (vd : VReg) (s : State) : Result := writeVr s vd (0#96 ++ s.vscr)

/-- `mtvscr`, Move to Vector Status and Control Register (R141, reserved bits ignored, D4). -/
def execMtvscr (vb : VReg) (s : State) : Result := finish s (s.setVscr (elem 32 (s.getVr vb) 3))

end Sys2Proof.Machine
end

