-- ==== Sys2Proof/Machine/Fetch.lean ====
section
/-! DEFINITION. Reading the instruction at `pc` and what can stop it (30_encoding.md R80, 60_exceptions.md R409). -/

namespace Sys2Proof.Machine

/-- One of the four bytes at `pc` was written by a store of this run (R61). -/
def State.fetchesStored (s : State) : Bool :=
  (List.range 4).any fun j => s.stored.contains (s.pc.toNat + j)

/-- `MemRead(pc, 4)` (R80). -/
def State.fetchWord (s : State) : Word := s.memRead 32 s.pc.toNat 4

/-- `pc[30:31] = 0` (R22). -/
def State.pcAligned (s : State) : Bool := s.pc.toNat % 4 == 0

/-- The instruction at `pc`, or what the step answers instead, in the order of R409: a `pc` outside the model (D3), a
fetch outside `MemDomain` (R402), a stored word (R61), a word that does not decode (R406). -/
def State.fetch (s : State) : Except Result Instr :=
  if !s.pcAligned then .error (.refused (.misalignedPc s.pc))
  else if !s.accessible s.pc.toNat 4 then .error (raise s (.memFault s.pc .fetch))
  else if s.fetchesStored then .error (.refused (.storedCode s.pc))
  else match decode s.fetchWord with
    | .ok i => .ok i
    | .error e => .error (.refused (.undecodable s.fetchWord e))

/-- A step: the instruction at `pc`, run. -/
def State.stepOnce (s : State) : Result :=
  match s.fetch with
  | .ok i => exec i s
  | .error r => r

/-- The address whose four bytes a step fetches: `pc`, its low two bits zero (R22). -/
def State.fetchAddress (s : State) : Word := (s.pc >>> 2) <<< 2

/-- A word placed where the next step fetches: in the byte order of the mode, not counted as stored by the run, inside
`MemDomain`. Nothing else changes but a misaligned `pc`, which no step can fetch at. -/
def State.placeWord (s : State) (w : Word) : State :=
  { s with
    pc := s.fetchAddress
    mem := s.mem.writeBytes s.fetchAddress.toNat (s.storedBytes 4 w)
    stored := s.stored.filter fun a => decide (a < s.fetchAddress.toNat) || decide (s.fetchAddress.toNat + 3 < a)
    domain :=
      if s.accessible s.fetchAddress.toNat 4 then s.domain
      else (s.fetchAddress.toNat, s.fetchAddress.toNat + 3) :: s.domain }

end Sys2Proof.Machine
end

