-- ==== Sys2Proof/Machine/Step.lean ====
section
/-! DEFINITION. One step of the machine, and placing an instruction for the next one. -/

namespace Sys2Proof.Machine

/-- Fetch, decode, execute (R415). -/
def step (s : State) : Host.Outcome State Fault Refusal := s.stepOnce

/-- The state with the instruction whose bits are `w` placed where the next step fetches (log entry 18). -/
def State.withFetchWord (s : State) (nbits w : Nat) : State := s.placeWord (BitVec.ofNat 32 (w % 2 ^ nbits))

end Sys2Proof.Machine
end

