-- ==== Sys2Proof/Machine/Run.lean ====
section
/-! DEFINITION. A run with an end address (60_exceptions.md R415, R410): the machine steps until `pc = pc_end` or until
the first event. -/

namespace Sys2Proof.Machine

/-- How a run stands. -/
inductive RunEnd where
  /-- `pc = pc_end`: the normal end with this state (R415). -/
  | ended (final : State)
  /-- A terminal event, with the state as it was before the instruction that raised it (R410). -/
  | faulted (event : Fault) (before : State)
  /-- A word or a run with no meaning, with the state the run is stuck in (R406). -/
  | stuck (reason : Refusal) (before : State)
  /-- The bound on the number of steps was used up. -/
  | running (state : State)
  deriving DecidableEq, Repr

/-- At most `fuel` steps of the run with the end address `pcEnd`. -/
def run (pcEnd : Word) : Nat → State → RunEnd
  | 0, s => if s.pc = pcEnd then .ended s else .running s
  | n + 1, s =>
    if s.pc = pcEnd then .ended s
    else match step s with
      | .next t => run pcEnd n t
      | .fault f => .faulted f s
      | .refused r => .stuck r s

end Sys2Proof.Machine
end

