-- ==== Sys2Proof/Safety.lean ====
section
/-! DEFINITION. What a safe step keeps, in the terms the statements use: frames, the forms an instruction's result takes,
which instructions touch what, and the invariant of the machine. -/

namespace Sys2Proof.Machine

/-! What a step keeps. -/

/-- Every byte of memory reads as before. -/
def MemoryKept (s t : State) : Prop := ∀ a, t.readByte a = s.readByte a

/-- Every byte outside `lo .. lo + n - 1` reads as before. -/
def MemoryKeptOutside (lo n : Nat) (s t : State) : Prop :=
  ∀ a, a < lo ∨ lo + n ≤ a → t.readByte a = s.readByte a

/-- Every general register is as before. -/
def GprKept (s t : State) : Prop := ∀ r, t.getGpr r = s.getGpr r

/-- Every vector register is as before. -/
def VrKept (s t : State) : Prop := ∀ r, t.getVr r = s.getVr r

/-- Every vector register but `vd` is as before. -/
def VrKeptBut (vd : VReg) (s t : State) : Prop := ∀ r, r ≠ vd → t.getVr r = s.getVr r

/-- Every data stream is as before. -/
def StreamsKept (s t : State) : Prop := ∀ k, t.getStream k = s.getStream k

/-- The parameters of the run are as before (00_scope.md R5: constant during a run). -/
def ParametersKept (s t : State) : Prop :=
  t.le = s.le ∧ t.vecAvailable = s.vecAvailable ∧ t.domain = s.domain ∧ t.nanRule = s.nanRule

/-- CR, NJ and SAT are as before. -/
def StatusKept (s t : State) : Prop := t.cr = s.cr ∧ t.nj = s.nj ∧ t.sat = s.sat

/-- The frame of an instruction that writes a vector register: all but that register, CR, SAT and the count of free
values is as before, and `pc` is past the instruction. -/
def RegisterFrame (vd : VReg) (s t : State) : Prop :=
  VrKeptBut vd s t ∧ GprKept s t ∧ t.nj = s.nj ∧ MemoryKept s t ∧ StreamsKept s t ∧ ParametersKept s t ∧
    t.stored = s.stored ∧ t.pc = s.pc + 4

/-! The forms of a result. -/

/-- The instruction completes and writes `v` to `vd`, and nothing else but `pc` changes. -/
def WritesRegister (vd : VReg) (s : State) (r : Result) (v : Vec) : Prop :=
  ∃ t, r = .next t ∧ t.getVr vd = v ∧ t.cr = s.cr ∧ t.sat = s.sat ∧ t.fresh = s.fresh ∧ RegisterFrame vd s t

/-- The instruction completes and writes `f k` to each element `k` of `vd`, and nothing else but `pc` changes. -/
def WritesElements (w : Nat) (vd : VReg) (s : State) (r : Result) (f : Nat → BitVec w) : Prop :=
  ∃ t, r = .next t ∧ (∀ k, k < 128 / w → elem w (t.getVr vd) k = f k) ∧
    t.cr = s.cr ∧ t.sat = s.sat ∧ t.fresh = s.fresh ∧ RegisterFrame vd s t

/-- An exact integer brought into the signed range of `n` bits (00_scope.md R9). -/
def clampSigned (n : Nat) (z : Int) : Int := max (-(2 ^ (n - 1))) (min (2 ^ (n - 1) - 1) z)

/-- An exact integer brought into the unsigned range of `n` bits (00_scope.md R9). -/
def clampUnsigned (n : Nat) (z : Int) : Int := max 0 (min (2 ^ n - 1) z)

/-- The instruction completes, writes the clamped exact values `z k` as signed elements, and SAT becomes 1 exactly where
it was 1 or some value was clamped; nothing else but `pc` changes (R9, R27). -/
def WritesSigned (w : Nat) (vd : VReg) (s : State) (r : Result) (z : Nat → Int) : Prop :=
  ∃ t, r = .next t ∧ (∀ k, k < 128 / w → (elem w (t.getVr vd) k).toInt = clampSigned w (z k)) ∧
    (t.sat = true ↔ s.sat = true ∨ ∃ k, k < 128 / w ∧ clampSigned w (z k) ≠ z k) ∧
    t.cr = s.cr ∧ t.fresh = s.fresh ∧ RegisterFrame vd s t

/-- The same with unsigned elements. -/
def WritesUnsigned (w : Nat) (vd : VReg) (s : State) (r : Result) (z : Nat → Int) : Prop :=
  ∃ t, r = .next t ∧ (∀ k, k < 128 / w → ((elem w (t.getVr vd) k).toNat : Int) = clampUnsigned w (z k)) ∧
    (t.sat = true ↔ s.sat = true ∨ ∃ k, k < 128 / w ∧ clampUnsigned w (z k) ≠ z k) ∧
    t.cr = s.cr ∧ t.fresh = s.fresh ∧ RegisterFrame vd s t

/-- CR6 is `f` and the other 28 bits of CR are as before (R23). -/
def Cr6Becomes (f : BitVec 4) (s t : State) : Prop :=
  t.cr6 = f ∧ t.cr.extractLsb' 8 24 = s.cr.extractLsb' 8 24 ∧ t.cr.extractLsb' 0 4 = s.cr.extractLsb' 0 4

/-- The compare completes: each element of `vd` is all ones where `p k` holds and zero where not; with `Rc = 1` CR6 says
whether `p` held everywhere and whether nowhere, with `Rc = 0` CR is as before; nothing else but `pc` changes (R200). -/
def WritesCompare (w : Nat) (vd : VReg) (rc : Bool) (s : State) (r : Result) (p : Nat → Prop) : Prop :=
  ∃ t, r = .next t ∧
    (∀ k, k < 128 / w → (p k → elem w (t.getVr vd) k = BitVec.allOnes w) ∧ (¬p k → elem w (t.getVr vd) k = 0)) ∧
    (rc = false → t.cr = s.cr) ∧
    (rc = true → (∀ k, k < 128 / w → p k) → Cr6Becomes 0b1000 s t) ∧
    (rc = true → (∀ k, k < 128 / w → ¬p k) → Cr6Becomes 0b0010 s t) ∧
    (rc = true → (∃ k, k < 128 / w ∧ p k) → (∃ k, k < 128 / w ∧ ¬p k) → Cr6Becomes 0b0000 s t) ∧
    t.sat = s.sat ∧ t.fresh = s.fresh ∧ RegisterFrame vd s t

/-- The same as `WritesElements` for an instruction that takes a free value: the count of free values goes up by one. -/
def DrawsElements (w : Nat) (vd : VReg) (s : State) (r : Result) (f : Nat → BitVec w) : Prop :=
  ∃ t, r = .next t ∧ (∀ k, k < 128 / w → elem w (t.getVr vd) k = f k) ∧
    t.cr = s.cr ∧ t.sat = s.sat ∧ t.fresh = s.fresh + 1 ∧ RegisterFrame vd s t

/-! Floating-point values, in the terms of 49_float.md and not of the model's arithmetic. -/

/-- `fpval(w)`: the exact value of a finite word (00_scope.md R13). -/
def fpRat (w : Word) : ℚ := (fpScaled w : ℚ) / 2 ^ 149

/-- The extended value of a word that is no NaN (R324). -/
def fpExt (w : Word) : WithBot (WithTop ℚ) :=
  if isInf w = true then (if fpSign w = true then ⊥ else ((⊤ : WithTop ℚ) : WithBot (WithTop ℚ)))
  else ((fpRat w : WithTop ℚ) : WithBot (WithTop ℚ))

/-- `r` is `q` rounded to the nearest word: no finite word is nearer, of two equally near ones `r` is even, from
`2^128 - 2^103` on the result is an infinity, and the sign is that of `q` (R322). -/
def RoundsTo (q : ℚ) (r : Word) : Prop :=
  isNaN r = false ∧ (fpSign r = true ↔ q < 0) ∧
  (2 ^ 128 - 2 ^ 103 ≤ |q| → isInf r = true) ∧
  (|q| < 2 ^ 128 - 2 ^ 103 → isFinite r = true ∧ ∀ w, isFinite w = true →
    |fpRat r - q| ≤ |fpRat w - q| ∧ (|fpRat r - q| = |fpRat w - q| → fpRat w ≠ fpRat r → r.getLsbD 0 = false))

/-- A word after the flush of non-Java mode: with NJ = 1 a denormalized word becomes the zero of its sign (R321). -/
def njWord (s : State) (w : Word) : Word := if s.nj = true ∧ fpExp w = 0 then w &&& 0x80000000 else w

/-- The rounded result after the result flush (R321). -/
def RoundsFlushed (s : State) (q : ℚ) (r : Word) : Prop := ∃ r', RoundsTo q r' ∧ r = njWord s r'

/-- A quiet NaN; under the default rule it is the first NaN operand made quiet, or `DefaultQNaN` (R323, D12). -/
def QuietNaN (s : State) (ws : List Word) (r : Word) : Prop :=
  isNaN r = true ∧ r.getLsbD 22 = true ∧ (s.nanRule = .firstOperand → r = firstNaN ws)

/-- `FAdd` of two words that are no NaN, then the result flush (R322). -/
def SumResult (s : State) (a b r : Word) : Prop :=
  if isInf a = true ∧ isInf b = true ∧ fpSign a ≠ fpSign b then QuietNaN s [] r
  else if isInf a = true then r = a
  else if isInf b = true then r = b
  else if fpRat a + fpRat b = 0 then r = if a = 0x80000000 ∧ b = 0x80000000 then 0x80000000 else 0
  else RoundsFlushed s (fpRat a + fpRat b) r

/-- `FMA(a, c, b)` of three words that are no NaN, then the result flush (R322). -/
def MultiplyAddResult (s : State) (a c b r : Word) : Prop :=
  if isInf a = true ∧ isZero c = true ∨ isZero a = true ∧ isInf c = true then QuietNaN s [] r
  else if isInf a = true ∨ isInf c = true then
    if isInf b = true ∧ fpSign b = (fpSign a == fpSign c) then QuietNaN s [] r
    else r = if fpSign a = fpSign c then 0x7F800000 else 0xFF800000
  else if isInf b = true then r = b
  else if fpRat a * fpRat c + fpRat b = 0 then
    r = if (isZero a = true ∨ isZero c = true) ∧ b = 0x80000000 ∧ fpSign a ≠ fpSign c then 0x80000000 else 0
  else RoundsFlushed s (fpRat a * fpRat c + fpRat b) r

/-- The integer toward zero from an exact value. -/
def towardZero (q : ℚ) : Int := if q < 0 then ⌈q⌉ else ⌊q⌋

/-- The integer that a word times `2^u` stands for in a conversion: toward zero, a NaN 0, an infinity beyond every range
(R338, R339). -/
def convertedInt (w : Word) (u : Nat) : Int :=
  if isNaN w = true then 0
  else if isInf w = true then (if fpSign w = true then -(2 ^ 64) else 2 ^ 64)
  else towardZero (fpRat w * 2 ^ u)

/-- `a ≤fp b`: neither is a NaN and the extended values are so ordered (R324). -/
def FpLe (a b : Word) : Prop := isNaN a = false ∧ isNaN b = false ∧ fpExt a ≤ fpExt b

/-- The rounding of a word to an integral value by a rule that says which integer an exact value becomes: a quiet NaN of
a NaN, an infinity or a zero unchanged, else the exact integer with the sign of the operand (R340 to R343). -/
def IntegralResult (s : State) (rule : ℚ → Int → Prop) (w r : Word) : Prop :=
  if isNaN w = true then QuietNaN s [w] r
  else if isInf w = true ∨ isZero w = true then r = w
  else isFinite r = true ∧ fpSign r = fpSign w ∧ ∃ z : Int, fpRat r = z ∧ rule (fpRat w) z

/-- A result with its next state changed. -/
def mapNext (f : State → State) : Result → Result
  | .next t => .next (f t)
  | .fault e => .fault e
  | .refused e => .refused e

/-! Which instructions touch what. -/

/-- The aligned address, the width in bytes and the kind of the data access of an instruction, if it makes one: the ten
loads and stores (R402, R403). -/
def accessOf (i : Instr) (s : State) : Option (Word × Nat × AccessKind) :=
  match i with
  | .lvebx _ ra rb => some (s.effective ra rb 0, 1, .load)
  | .lvehx _ ra rb => some (s.effective ra rb 1, 2, .load)
  | .lvewx _ ra rb => some (s.effective ra rb 2, 4, .load)
  | .lvx _ ra rb => some (s.effective ra rb 4, 16, .load)
  | .lvxl _ ra rb => some (s.effective ra rb 4, 16, .load)
  | .stvebx _ ra rb => some (s.effective ra rb 0, 1, .store)
  | .stvehx _ ra rb => some (s.effective ra rb 1, 2, .store)
  | .stvewx _ ra rb => some (s.effective ra rb 2, 4, .store)
  | .stvx _ ra rb => some (s.effective ra rb 4, 16, .store)
  | .stvxl _ ra rb => some (s.effective ra rb 4, 16, .store)
  | _ => none

/-- The address is one that the instruction stores to. -/
def StoresTo (i : Instr) (s : State) (a : Nat) : Prop :=
  ∃ ea n, accessOf i s = some (ea, n, .store) ∧ ea.toNat ≤ a ∧ a < ea.toNat + n

/-- The data-stream instructions, which need no vector unit (R405). -/
def isStreamInstr : Instr → Bool
  | .dss _ _ => true
  | .dst _ _ _ _ => true
  | .dstst _ _ _ _ => true
  | _ => false

/-- The 13 compares with `Rc = 1`, which alone write CR (R23). -/
def recordsCr6 : Instr → Bool
  | .vcmpequb _ _ _ rc => rc
  | .vcmpequh _ _ _ rc => rc
  | .vcmpequw _ _ _ rc => rc
  | .vcmpgtsb _ _ _ rc => rc
  | .vcmpgtsh _ _ _ rc => rc
  | .vcmpgtsw _ _ _ rc => rc
  | .vcmpgtub _ _ _ rc => rc
  | .vcmpgtuh _ _ _ rc => rc
  | .vcmpgtuw _ _ _ rc => rc
  | .vcmpbfp _ _ _ rc => rc
  | .vcmpeqfp _ _ _ rc => rc
  | .vcmpgefp _ _ _ rc => rc
  | .vcmpgtfp _ _ _ rc => rc
  | _ => false

/-- The 29 instructions that can set SAT, as R27 lists them. -/
def canSetSat : Instr → Bool
  | .vaddsbs _ _ _ => true
  | .vaddshs _ _ _ => true
  | .vaddsws _ _ _ => true
  | .vaddubs _ _ _ => true
  | .vadduhs _ _ _ => true
  | .vadduws _ _ _ => true
  | .vsubsbs _ _ _ => true
  | .vsubshs _ _ _ => true
  | .vsubsws _ _ _ => true
  | .vsububs _ _ _ => true
  | .vsubuhs _ _ _ => true
  | .vsubuws _ _ _ => true
  | .vctsxs _ _ _ => true
  | .vctuxs _ _ _ => true
  | .vmhaddshs _ _ _ _ => true
  | .vmhraddshs _ _ _ _ => true
  | .vmsumshs _ _ _ _ => true
  | .vmsumuhs _ _ _ _ => true
  | .vpkshss _ _ _ => true
  | .vpkshus _ _ _ => true
  | .vpkswss _ _ _ => true
  | .vpkswus _ _ _ => true
  | .vpkuhus _ _ _ => true
  | .vpkuwus _ _ _ => true
  | .vsumsws _ _ _ => true
  | .vsum2sws _ _ _ => true
  | .vsum4sbs _ _ _ => true
  | .vsum4shs _ _ _ => true
  | .vsum4ubs _ _ _ => true
  | _ => false

/-- `mtvscr`, which alone writes NJ and clears SAT (R26, R27). -/
def isMtvscr : Instr → Bool
  | .mtvscr _ => true
  | _ => false

/-! The invariant. -/

/-- What every step keeps: memory in its canonical form, the stored addresses rising and 32 bits wide, `pc` aligned
(R22), every stream within the bounds that the control word can express (R110, R112). -/
def Inv (s : State) : Prop :=
  s.mem.wf = true ∧ s.stored.Pairwise (· < ·) ∧ (∀ a ∈ s.stored, a < 2 ^ 32) ∧ s.pc.toNat % 4 = 0 ∧
  ∀ k d, s.getStream k = some d →
    1 ≤ d.size ∧ d.size ≤ 32 ∧ 1 ≤ d.count ∧ d.count ≤ 256 ∧ 1 ≤ d.stride ∧ d.stride ≤ 65535

end Sys2Proof.Machine
end

