-- ==== Sys2Proof/Certificates/Slice0/Obligations.lean ====
section
/-! DEFINITION. The statements for the provers. -/

open Sys2Proof Sys2Proof.Machine

/-! Encoding and decoding. -/

/-- Decoding the word of a well-formed instruction gives the instruction back, whatever its operands. 29 of the XO
values are general knowledge that the spec adopts (log entry 20). -/
def Obligations.decode_of_encode : Prop := ∀ i : Instr, i.wf = true → decode (encode i) = .ok i

/-- A word that decodes is the word of its instruction, so no bit of it is ignored, and the instruction is well
formed. That a word with a nonzero reserved field does not decode is the spec's decision D5 (log entry 33). -/
def Obligations.encode_of_decode : Prop :=
  ∀ (w : Word) (i : Instr), decode w = .ok i → encode i = w ∧ i.wf = true

/-- Words written out from the encodings decode to the instructions they stand for. -/
def Obligations.decode_example_words : Prop :=
  decode 0x7C2218CE = .ok (.lvx 1 2 3) ∧ decode 0x7E4322AC = .ok (.dst 3 4 2 true) ∧
  decode 0x1022180A = .ok (.vaddfp 1 2 3) ∧ decode 0x10221C06 = .ok (.vcmpequb 1 2 3 true) ∧
  decode 0x1022192E = .ok (.vmaddfp 1 2 4 3) ∧ decode 0x10221B2C = .ok (.vsldoi 1 2 3 12) ∧
  decode 0x10004E44 = .ok (.mtvscr 9) ∧ decode 0x10221A8C = .ok (.vspltw 1 3 2)

/-- Every word outside the tables is refused as unassigned, or as having another primary opcode. R94; the refusal is
the spec's decision D20 (log entry 33). -/
def Obligations.unassigned_words_refused : Prop :=
  ∀ w : Word,
    (fieldPrimary w ≠ 4 → fieldPrimary w ≠ 31 → decode w = .error .otherPrimary) ∧
    (fieldPrimary w = 31 →
      (fieldXoX w).toNat ∉ [6, 7, 38, 39, 71, 103, 135, 167, 199, 231, 342, 359, 374, 487, 822] →
      decode w = .error .unassigned) ∧
    (fieldPrimary w = 4 → w.getLsbD 5 = true →
      (fieldXoVA w).toNat ∉ [32, 33, 34, 36, 37, 38, 39, 40, 41, 42, 43, 44, 46, 47] →
      decode w = .error .unassigned) ∧
    (fieldPrimary w = 4 → w.getLsbD 5 = false →
      (fieldXoVX w).toNat ∉
        [0, 2, 4, 8, 10, 12, 14, 64, 66, 68, 72, 74, 76, 78, 128, 130, 132, 140, 142, 206, 258, 260, 264, 266, 268, 270,
          322, 324, 328, 330, 332, 334, 384, 386, 388, 394, 396, 398, 452, 458, 462, 512, 514, 516, 520, 522, 524, 526,
          576, 578, 580, 584, 586, 588, 590, 640, 642, 644, 650, 652, 654, 708, 714, 718, 768, 770, 772, 776, 778, 780,
          782, 832, 834, 836, 840, 842, 844, 846, 896, 898, 900, 906, 908, 970, 974, 1024, 1026, 1028, 1034, 1036, 1088,
          1090, 1092, 1098, 1100, 1152, 1154, 1156, 1220, 1282, 1284, 1346, 1408, 1410, 1536, 1540, 1544, 1600, 1604, 1608,
          1664, 1672, 1792, 1800, 1856, 1920, 1928] →
      (fieldXoVXR w).toNat ∉ [6, 70, 134, 198, 454, 518, 582, 646, 710, 774, 838, 902, 966] →
      decode w = .error .unassigned)

/-- A word that decodes has zeros in every field that its figure prints as zeros, and none of the excluded operand
values. `dssall` decodes with every value of its ignored stream field. R93; the refusal is the spec's decisions D5 and
D6 (log entry 33). -/
def Obligations.reserved_fields_are_zero : Prop :=
  (∀ (w : Word) (i : Instr), decode w = .ok i →
    (fieldPrimary w = 31 → w.getLsbD 0 = false) ∧
    (isStreamInstr i = true → fieldStreamZero w = 0) ∧
    (match i with
      | .dss _ _ => fieldA w = 0 ∧ fieldB w = 0
      | .dst ra _ _ _ | .dstst ra _ _ _ => ra ≠ 0
      | .vexptefp _ _ | .vlogefp _ _ | .vrefp _ _ | .vrsqrtefp _ _ | .vrfim _ _ | .vrfin _ _ | .vrfip _ _ | .vrfiz _ _
      | .vupkhpx _ _ | .vupkhsb _ _ | .vupkhsh _ _ | .vupklpx _ _ | .vupklsb _ _ | .vupklsh _ _ => fieldA w = 0
      | .vspltisb _ _ | .vspltish _ _ | .vspltisw _ _ => fieldB w = 0
      | .mfvscr _ => fieldA w = 0 ∧ fieldB w = 0
      | .mtvscr _ => fieldD w = 0 ∧ fieldA w = 0
      | .vsldoi _ _ _ _ => w.getLsbD 10 = false
      | .vspltb _ _ uimm => uimm.toNat ≤ 15
      | .vsplth _ _ uimm => uimm.toNat ≤ 7
      | .vspltw _ _ uimm => uimm.toNat ≤ 3
      | _ => True)) ∧
  ∀ strm : BitVec 2, decode (formStream true strm 0 0 822) = .ok (.dss strm true)

/-! The step and its events. -/

/-- When the word at an aligned, accessible `pc` that this run has not stored to decodes to `i`, the step is `exec i`.
Alignment of `pc` and the byte order of a little-endian fetch are the spec's decision D3 (log entries 16, 21). -/
def Obligations.step_runs_decoded_instruction : Prop :=
  ∀ (s : State) (i : Instr), s.pc.toNat % 4 = 0 → s.accessible s.pc.toNat 4 = true →
    (∀ j, j < 4 → s.pc.toNat + j ∉ s.stored) → decode (s.memRead 32 s.pc.toNat 4) = .ok i →
    Sys2Proof.Machine.step s = exec i s

/-- A fetch outside `MemDomain` comes first, then a word that does not decode, then the vector unit, then the data
access; a data access that fails reports its one aligned address. The events and their order are the spec's decisions
D7, D9, D20 and D25 (log entry 23). -/
def Obligations.event_priority : Prop :=
  ∀ s : State, s.pc.toNat % 4 = 0 →
    (s.accessible s.pc.toNat 4 = false → Sys2Proof.Machine.step s = .fault (.memFault s.pc .fetch)) ∧
    (s.accessible s.pc.toNat 4 = true → (∀ j, j < 4 → s.pc.toNat + j ∉ s.stored) →
      (∀ e, decode (s.memRead 32 s.pc.toNat 4) = .error e →
        Sys2Proof.Machine.step s = .refused (.undecodable (s.memRead 32 s.pc.toNat 4) e)) ∧
      ∀ i, decode (s.memRead 32 s.pc.toNat 4) = .ok i →
        (s.vecAvailable = false → isStreamInstr i = false → Sys2Proof.Machine.step s = .fault .vecUnavailable) ∧
        ∀ ea n k, accessOf i s = some (ea, n, k) → s.vecAvailable = true → s.accessible ea.toNat n = false →
          Sys2Proof.Machine.step s = .fault (.memFault ea k))

/-- A step that would fetch a byte that a store of the run wrote is refused, and the remembered bytes are exactly
those that the stores wrote. The refusal is the spec's decision D16; that it strikes at the fetch is the model's (log
entry 15). -/
def Obligations.stored_code_refused : Prop :=
  (∀ s : State, s.pc.toNat % 4 = 0 → s.accessible s.pc.toNat 4 = true →
    (∃ j, j < 4 ∧ s.pc.toNat + j ∈ s.stored) → Sys2Proof.Machine.step s = .refused (.storedCode s.pc)) ∧
  ∀ (i : Instr) (s t : State), exec i s = .next t → ∀ a, a ∈ t.stored ↔ a ∈ s.stored ∨ StoresTo i s a

/-- A step that answers a next state fetched the word at an aligned `pc`, ran the instruction it decodes to, and left
`pc + 4` modulo 2^32, aligned again. The `pc` is the spec's decision D3 (log entry 16). -/
def Obligations.pc_advances_by_four : Prop :=
  ∀ s t : State, Sys2Proof.Machine.step s = .next t →
    s.pc.toNat % 4 = 0 ∧ (∃ i, decode (s.memRead 32 s.pc.toNat 4) = .ok i ∧ exec i s = .next t) ∧
    t.pc.toNat = (s.pc.toNat + 4) % 2 ^ 32 ∧ t.pc.toNat % 4 = 0

/-- No instruction writes a general register or a parameter of the run; memory changes only at the bytes a store
writes; streams change only by the data-stream instructions. That parameters are constant is how the spec takes them
(R5, log entries 7 to 10). -/
def Obligations.registers_memory_streams_kept : Prop :=
  ∀ (i : Instr) (s t : State), exec i s = .next t →
    GprKept s t ∧ ParametersKept s t ∧ (∀ a, ¬StoresTo i s a → t.readByte a = s.readByte a) ∧
    (isStreamInstr i = false → StreamsKept s t)

/-- CR is written by the recording compares alone, and by them only in bits 24:27. -/
def Obligations.cr_written_by_recording_compares : Prop :=
  ∀ (i : Instr) (s t : State), exec i s = .next t →
    (recordsCr6 i = false → t.cr = s.cr) ∧
    t.cr.extractLsb' 8 24 = s.cr.extractLsb' 8 24 ∧ t.cr.extractLsb' 0 4 = s.cr.extractLsb' 0 4

/-- NJ is written by `mtvscr` alone; SAT is cleared by `mtvscr` alone and set by no instruction outside the 29 of R27. -/
def Obligations.vscr_writers : Prop :=
  ∀ (i : Instr) (s t : State), exec i s = .next t → isMtvscr i = false →
    t.nj = s.nj ∧ (s.sat = true → t.sat = true) ∧ (canSetSat i = false → t.sat = s.sat)

/-- With the vector unit disabled every instruction but the data-stream ones ends in `VecUnavailable`; with it enabled
none does. The event is the spec's decision D9 (log entry 8). -/
def Obligations.vector_unit_unavailable : Prop :=
  ∀ (i : Instr) (s : State), i.wf = true →
    (s.vecAvailable = false → isStreamInstr i = false → exec i s = .fault .vecUnavailable) ∧
    (s.vecAvailable = false → isStreamInstr i = true → ∃ t, exec i s = .next t) ∧
    (s.vecAvailable = true → exec i s ≠ .fault .vecUnavailable)

/-- Every well-formed instruction completes with the vector unit enabled, unless it accesses memory outside
`MemDomain`, and then it ends in the memory fault of its aligned address. The fault is the spec's decision D7 (log
entry 9). -/
def Obligations.instructions_complete_or_fault : Prop :=
  ∀ (i : Instr) (s : State), i.wf = true → s.vecAvailable = true →
    match accessOf i s with
    | none => ∃ t, exec i s = .next t
    | some (ea, n, k) =>
      (s.accessible ea.toNat n = true → ∃ t, exec i s = .next t) ∧
      (s.accessible ea.toNat n = false → exec i s = .fault (.memFault ea k))

/-- The operand values that D6 excludes are refused in every state, whatever the vector unit. That `exec` itself
refuses them is the model's choice (log entry 24). -/
def Obligations.excluded_operands_refused : Prop :=
  ∀ s : State,
    (∀ (vd vb : VReg) (u : BitVec 5), 15 < u.toNat → exec (.vspltb vd vb u) s = .refused .excludedOperand) ∧
    (∀ (vd vb : VReg) (u : BitVec 5), 7 < u.toNat → exec (.vsplth vd vb u) s = .refused .excludedOperand) ∧
    (∀ (vd vb : VReg) (u : BitVec 5), 3 < u.toNat → exec (.vspltw vd vb u) s = .refused .excludedOperand) ∧
    ∀ (rb : GReg) (strm : BitVec 2) (t : Bool),
      exec (.dst 0 rb strm t) s = .refused .excludedOperand ∧ exec (.dstst 0 rb strm t) s = .refused .excludedOperand

/-- Every step keeps the invariant: canonical memory, rising stored addresses, aligned `pc`, bounded streams. The
canonical form and the remembered addresses are the model's own (log entries 6, 15), the stride bound is log entry 22.
-/
def Obligations.step_keeps_invariant : Prop :=
  ∀ s t : State, Inv s → Sys2Proof.Machine.step s = .next t → Inv t

/-- The invariant holds of the start state. The values of the start state are the model's choice (log entries 1 to 6).
-/
def Obligations.reset_meets_invariant : Prop := Inv State.reset

/-- R415 and R410: a run that ends normally ends at `pc_end`; a run that ends in an event or is stuck stands in a
state before `pc_end` whose own step gives that event or refusal. How a run ends is the spec's decisions D14 and D24
(log entries 17, 23). -/
def Obligations.run_ends_as_its_last_step : Prop :=
  ∀ (pcEnd : Word) (n : Nat) (s u : State),
    (run pcEnd n s = .ended u → u.pc = pcEnd) ∧
    (∀ e, run pcEnd n s = .faulted e u → u.pc ≠ pcEnd ∧ Sys2Proof.Machine.step u = .fault e) ∧
    (∀ e, run pcEnd n s = .stuck e u → u.pc ≠ pcEnd ∧ Sys2Proof.Machine.step u = .refused e) ∧
    (s.pc = pcEnd → run pcEnd n s = .ended s)

/-- Instructions that do not access memory behave the same in both endian modes. The mode is the spec's decision D2
(log entry 7). -/
def Obligations.endian_mode_only_in_memory : Prop :=
  ∀ (i : Instr) (s : State) (b : Bool), accessOf i s = none →
    exec i { s with le := b } = mapNext (fun t => { t with le := b }) (exec i s)

/-! Data streams, loads, stores, VSCR. -/

/-- `dst` and `dstst` replace the named stream by the descriptor of the control word, zero fields meaning the maximum;
`dss` stops one stream or all; nothing else changes but `pc`. That the streams are kept as state is the model's choice
(log entry 22). -/
def Obligations.stream_start_and_stop : Prop :=
  (∀ (s : State) (ra rb : GReg) (strm : BitVec 2) (tr fs : Bool), ra ≠ 0 →
    ∃ t, exec (if fs then .dstst ra rb strm tr else .dst ra rb strm tr) s = .next t ∧
      (∃ d, t.getStream strm = some d ∧ d.addr = s.getGpr ra ∧ d.transient = tr ∧ d.forStore = fs ∧
        d.size = (if (s.getGpr rb).extractLsb' 24 5 = 0 then 32 else ((s.getGpr rb).extractLsb' 24 5).toNat) ∧
        d.count = (if (s.getGpr rb).extractLsb' 16 8 = 0 then 256 else ((s.getGpr rb).extractLsb' 16 8).toNat) ∧
        d.stride = (if (s.getGpr rb).extractLsb' 0 16 = 0 then 32768 else ((s.getGpr rb).extractLsb' 0 16).toNat)) ∧
      (∀ k, k ≠ strm → t.getStream k = s.getStream k) ∧
      VrKept s t ∧ GprKept s t ∧ StatusKept s t ∧ MemoryKept s t ∧ ParametersKept s t ∧
      t.fresh = s.fresh ∧ t.stored = s.stored ∧ t.pc = s.pc + 4) ∧
  ∀ (s : State) (strm : BitVec 2) (a : Bool),
    ∃ t, exec (.dss strm a) s = .next t ∧
      (∀ k, t.getStream k = if a = true ∨ k = strm then none else s.getStream k) ∧
      VrKept s t ∧ GprKept s t ∧ StatusKept s t ∧ MemoryKept s t ∧ ParametersKept s t ∧
      t.fresh = s.fresh ∧ t.stored = s.stored ∧ t.pc = s.pc + 4

/-- Every access of the ten loads and stores is aligned to its width of 1, 2, 4 or 16 bytes and never passes the end
of the address space. Its address is `(rA|0) + rB` modulo 2^32 with the low bits of the sum dropped. The alignment
and the sum are R55 and R51; that the carry out of bit 0 is dropped and that no access wraps are the inferences
these rules mark: "derived: from the 32-bit width of EA" and "derived: from rule R51". -/
def Obligations.accesses_are_aligned : Prop :=
  (∀ (i : Instr) (s : State) (ea : Word) (n : Nat) (k : AccessKind), accessOf i s = some (ea, n, k) →
    n ∈ [1, 2, 4, 16] ∧ ea.toNat % n = 0 ∧ ea.toNat + n ≤ 2 ^ 32) ∧
  ∀ (s : State) (ra rb : GReg) (k : Nat), k ≤ 4 →
    (s.effective ra rb k).toNat =
      ((if ra = 0 then 0 else (s.getGpr ra).toNat) + (s.getGpr rb).toNat) % 2 ^ 32 / 2 ^ k * 2 ^ k

/-- `lvebx`, `lvehx`, `lvewx`: the bytes of the addressed element come from memory, each to its place in the quadword
(mirrored in little-endian mode); every other byte of the register is the free value's; nothing else changes but `pc`
and the count of free values. The little-endian placement is the spec's reading (log entry 21), the other bytes are
free (log entry 11). -/
def Obligations.element_loads : Prop :=
  ∀ (s : State) (vd : VReg) (ra rb : GReg) (k : Nat) (i : Instr) (ea : Word),
    (k, i) ∈ [(0, Instr.lvebx vd ra rb), (1, Instr.lvehx vd ra rb), (2, Instr.lvewx vd ra rb)] →
    ea = s.effective ra rb k → s.vecAvailable = true → s.accessible ea.toNat (2 ^ k) = true →
    ∃ t, exec i s = .next t ∧
      (∀ j, j < 16 → elem 8 (t.getVr vd) (if s.le then 15 - j else j) =
        if ea.toNat % 16 ≤ j ∧ j < ea.toNat % 16 + 2 ^ k then s.readByte (ea.toNat / 16 * 16 + j)
        else elem 8 (Config.undef128 s.fresh) (if s.le then 15 - j else j)) ∧
      t.cr = s.cr ∧ t.sat = s.sat ∧ t.fresh = s.fresh + 1 ∧ RegisterFrame vd s t

/-- `lvx` and `lvxl`: byte `j` of the aligned quadword goes to byte `j` of the register, or to byte `15 - j` in
little-endian mode; nothing else changes but `pc`. The little-endian placement is the spec's reading (log entry 21).
-/
def Obligations.quadword_loads : Prop :=
  ∀ (s : State) (vd : VReg) (ra rb : GReg) (i : Instr), i ∈ [Instr.lvx vd ra rb, Instr.lvxl vd ra rb] →
    s.vecAvailable = true → s.accessible (s.effective ra rb 4).toNat 16 = true →
    ∃ t, exec i s = .next t ∧
      (∀ j, j < 16 → elem 8 (t.getVr vd) (if s.le then 15 - j else j) =
        s.readByte ((s.effective ra rb 4).toNat + j)) ∧
      t.cr = s.cr ∧ t.sat = s.sat ∧ t.fresh = s.fresh ∧ RegisterFrame vd s t

/-- `lvsl` and `lvsr`: the control vectors of a left and a right shift by the low four bits of the address, with no memory
access. -/
def Obligations.alignment_vectors : Prop :=
  ∀ (s : State) (vd : VReg) (ra rb : GReg) (sh : Nat), s.vecAvailable = true →
    sh = (s.effective ra rb 0).toNat % 16 →
    WritesElements 8 vd s (exec (.lvsl vd ra rb) s) (fun k => BitVec.ofNat 8 (sh + k)) ∧
    WritesElements 8 vd s (exec (.lvsr vd ra rb) s) (fun k => BitVec.ofNat 8 (16 - sh + k))

/-- `stvebx`, `stvehx`, `stvewx`: the bytes of the addressed element change to the register's bytes at the same place
of the quadword (mirrored in little-endian mode); no other byte of memory and nothing else changes but `pc`. The
little-endian placement is the spec's reading (log entry 21). -/
def Obligations.element_stores : Prop :=
  ∀ (s : State) (vs : VReg) (ra rb : GReg) (k : Nat) (i : Instr) (ea : Word),
    (k, i) ∈ [(0, Instr.stvebx vs ra rb), (1, Instr.stvehx vs ra rb), (2, Instr.stvewx vs ra rb)] →
    ea = s.effective ra rb k → s.vecAvailable = true → s.accessible ea.toNat (2 ^ k) = true →
    ∃ t, exec i s = .next t ∧
      (∀ j, j < 2 ^ k → t.readByte (ea.toNat + j) =
        elem 8 (s.getVr vs) (if s.le then 15 - (ea.toNat % 16 + j) else ea.toNat % 16 + j)) ∧
      MemoryKeptOutside ea.toNat (2 ^ k) s t ∧
      VrKept s t ∧ GprKept s t ∧ StatusKept s t ∧ StreamsKept s t ∧ ParametersKept s t ∧
      t.fresh = s.fresh ∧ t.pc = s.pc + 4

/-- `stvx` and `stvxl`: byte `j` of the aligned quadword becomes byte `j` of the register, or byte `15 - j` in
little-endian mode; no other byte of memory and nothing else changes but `pc`. The little-endian placement is the
spec's reading (log entry 21). -/
def Obligations.quadword_stores : Prop :=
  ∀ (s : State) (vs : VReg) (ra rb : GReg) (i : Instr), i ∈ [Instr.stvx vs ra rb, Instr.stvxl vs ra rb] →
    s.vecAvailable = true → s.accessible (s.effective ra rb 4).toNat 16 = true →
    ∃ t, exec i s = .next t ∧
      (∀ j, j < 16 → t.readByte ((s.effective ra rb 4).toNat + j) =
        elem 8 (s.getVr vs) (if s.le then 15 - j else j)) ∧
      MemoryKeptOutside (s.effective ra rb 4).toNat 16 s t ∧
      VrKept s t ∧ GprKept s t ∧ StatusKept s t ∧ StreamsKept s t ∧ ParametersKept s t ∧
      t.fresh = s.fresh ∧ t.pc = s.pc + 4

/-- A quadword load after a quadword store to the same address in the same mode returns the stored register. -/
def Obligations.quadword_store_then_load : Prop :=
  ∀ (s : State) (vs vd : VReg) (ra rb : GReg), s.vecAvailable = true →
    s.accessible (s.effective ra rb 4).toNat 16 = true →
    ∃ t u, exec (.stvx vs ra rb) s = .next t ∧ exec (.lvx vd ra rb) t = .next u ∧ u.getVr vd = s.getVr vs

/-- `mfvscr` copies NJ and SAT into bits 111 and 127 of a register whose other bits become zero; `mtvscr` sets NJ and
SAT from those bits; nothing else changes but `pc`. The places of NJ and SAT are the spec's (log entry 19), the
ignored bits its decision D4 (log entry 31). -/
def Obligations.vscr_moves : Prop :=
  ∀ s : State, s.vecAvailable = true →
    (∀ vd : VReg, WritesRegister vd s (exec (.mfvscr vd) s)
      (BitVec.ofNat 128 ((if s.nj then 0x10000 else 0) + (if s.sat then 1 else 0)))) ∧
    ∀ vb : VReg, ∃ t, exec (.mtvscr vb) s = .next t ∧
      t.nj = (s.getVr vb).getLsbD 16 ∧ t.sat = (s.getVr vb).getLsbD 0 ∧ t.cr = s.cr ∧
      VrKept s t ∧ GprKept s t ∧ MemoryKept s t ∧ StreamsKept s t ∧ ParametersKept s t ∧
      t.fresh = s.fresh ∧ t.stored = s.stored ∧ t.pc = s.pc + 4

/-! Integer add and subtract. -/

/-- The adds and subtracts work element by element on the old operands. The modulo forms keep the low bits and set
no flag, the saturating forms clamp the exact signed or unsigned value and set SAT where one was clamped, and the
carry forms write the carry of a word sum or 1 where a word difference has no borrow. The forms are R150, the carry
forms R151 and R161. -/
def Obligations.adds_and_subtracts : Prop :=
  ∀ (s : State) (vd va vb : VReg), s.vecAvailable = true →
    (∀ w add sub, (w, add, sub) ∈ [(8, Instr.vaddubm vd va vb, Instr.vsububm vd va vb),
        (16, Instr.vadduhm vd va vb, Instr.vsubuhm vd va vb), (32, Instr.vadduwm vd va vb, Instr.vsubuwm vd va vb)] →
      WritesElements w vd s (exec add s) (fun k => elem w (s.getVr va) k + elem w (s.getVr vb) k) ∧
      WritesElements w vd s (exec sub s) (fun k => elem w (s.getVr va) k - elem w (s.getVr vb) k)) ∧
    (∀ w add sub, (w, add, sub) ∈ [(8, Instr.vaddsbs vd va vb, Instr.vsubsbs vd va vb),
        (16, Instr.vaddshs vd va vb, Instr.vsubshs vd va vb), (32, Instr.vaddsws vd va vb, Instr.vsubsws vd va vb)] →
      WritesSigned w vd s (exec add s) (fun k => (elem w (s.getVr va) k).toInt + (elem w (s.getVr vb) k).toInt) ∧
      WritesSigned w vd s (exec sub s) (fun k => (elem w (s.getVr va) k).toInt - (elem w (s.getVr vb) k).toInt)) ∧
    (∀ w add sub, (w, add, sub) ∈ [(8, Instr.vaddubs vd va vb, Instr.vsububs vd va vb),
        (16, Instr.vadduhs vd va vb, Instr.vsubuhs vd va vb), (32, Instr.vadduws vd va vb, Instr.vsubuws vd va vb)] →
      WritesUnsigned w vd s (exec add s)
        (fun k => ((elem w (s.getVr va) k).toNat : Int) + ((elem w (s.getVr vb) k).toNat : Int)) ∧
      WritesUnsigned w vd s (exec sub s)
        (fun k => ((elem w (s.getVr va) k).toNat : Int) - ((elem w (s.getVr vb) k).toNat : Int))) ∧
    WritesElements 32 vd s (exec (.vaddcuw vd va vb) s) (fun k =>
      BitVec.ofNat 32 (((elem 32 (s.getVr va) k).toNat + (elem 32 (s.getVr vb) k).toNat) / 2 ^ 32)) ∧
    WritesElements 32 vd s (exec (.vsubcuw vd va vb) s) (fun k =>
      if (elem 32 (s.getVr va) k).toNat < (elem 32 (s.getVr vb) k).toNat then 0 else 1)

/-! Averages, maxima, minima, compares. -/

/-- R180: the averages, maxima and minima work element by element on the old operands, signed or unsigned. An average is
the half sum rounded upward; nothing saturates and no flag is written. -/
def Obligations.averages_maxima_minima : Prop :=
  ∀ (s : State) (vd va vb : VReg) (w : Nat) (avgs maxs mins avgu maxu minu : Instr), s.vecAvailable = true →
    (w, avgs, maxs, mins, avgu, maxu, minu) ∈
      [(8, Instr.vavgsb vd va vb, Instr.vmaxsb vd va vb, Instr.vminsb vd va vb, Instr.vavgub vd va vb,
          Instr.vmaxub vd va vb, Instr.vminub vd va vb),
        (16, Instr.vavgsh vd va vb, Instr.vmaxsh vd va vb, Instr.vminsh vd va vb, Instr.vavguh vd va vb,
          Instr.vmaxuh vd va vb, Instr.vminuh vd va vb),
        (32, Instr.vavgsw vd va vb, Instr.vmaxsw vd va vb, Instr.vminsw vd va vb, Instr.vavguw vd va vb,
          Instr.vmaxuw vd va vb, Instr.vminuw vd va vb)] →
    ∃ f₁ f₂ f₃ g₁ g₂ g₃ : Nat → BitVec w,
      WritesElements w vd s (exec avgs s) f₁ ∧ WritesElements w vd s (exec maxs s) f₂ ∧
      WritesElements w vd s (exec mins s) f₃ ∧ WritesElements w vd s (exec avgu s) g₁ ∧
      WritesElements w vd s (exec maxu s) g₂ ∧ WritesElements w vd s (exec minu s) g₃ ∧
      ∀ k, k < 128 / w →
        (f₁ k).toInt = ((elem w (s.getVr va) k).toInt + (elem w (s.getVr vb) k).toInt + 1) / 2 ∧
        (f₂ k).toInt = max (elem w (s.getVr va) k).toInt (elem w (s.getVr vb) k).toInt ∧
        (f₃ k).toInt = min (elem w (s.getVr va) k).toInt (elem w (s.getVr vb) k).toInt ∧
        (g₁ k).toNat = ((elem w (s.getVr va) k).toNat + (elem w (s.getVr vb) k).toNat + 1) / 2 ∧
        (g₂ k).toNat = max (elem w (s.getVr va) k).toNat (elem w (s.getVr vb) k).toNat ∧
        (g₃ k).toNat = min (elem w (s.getVr va) k).toNat (elem w (s.getVr vb) k).toNat

/-- R200: the nine integer compares write all ones or zeros per element, and with `Rc = 1` the summary into CR6. -/
def Obligations.integer_compares : Prop :=
  ∀ (s : State) (vd va vb : VReg) (rc : Bool) (w : Nat) (eq gts gtu : Instr), s.vecAvailable = true →
    (w, eq, gts, gtu) ∈
      [(8, Instr.vcmpequb vd va vb rc, Instr.vcmpgtsb vd va vb rc, Instr.vcmpgtub vd va vb rc),
        (16, Instr.vcmpequh vd va vb rc, Instr.vcmpgtsh vd va vb rc, Instr.vcmpgtuh vd va vb rc),
        (32, Instr.vcmpequw vd va vb rc, Instr.vcmpgtsw vd va vb rc, Instr.vcmpgtuw vd va vb rc)] →
    WritesCompare w vd rc s (exec eq s) (fun k => elem w (s.getVr va) k = elem w (s.getVr vb) k) ∧
    WritesCompare w vd rc s (exec gts s) (fun k => (elem w (s.getVr vb) k).toInt < (elem w (s.getVr va) k).toInt) ∧
    WritesCompare w vd rc s (exec gtu s) (fun k => (elem w (s.getVr vb) k).toNat < (elem w (s.getVr va) k).toNat)

/-! Multiply and sum. -/

/-- `vmhaddshs` and `vmhraddshs`: the product, rounded or not, shifted right by 15, plus the addend, clamped. -/
def Obligations.multiply_high_add : Prop :=
  ∀ (s : State) (vd va vb vc : VReg), s.vecAvailable = true →
    WritesSigned 16 vd s (exec (.vmhaddshs vd va vb vc) s) (fun k =>
      (elem 16 (s.getVr va) k).toInt * (elem 16 (s.getVr vb) k).toInt / 2 ^ 15 + (elem 16 (s.getVr vc) k).toInt) ∧
    WritesSigned 16 vd s (exec (.vmhraddshs vd va vb vc) s) (fun k =>
      ((elem 16 (s.getVr va) k).toInt * (elem 16 (s.getVr vb) k).toInt + 2 ^ 14) / 2 ^ 15 +
        (elem 16 (s.getVr vc) k).toInt)

/-- `vmladduhm` and the modulo multiply-sums keep the low bits of the exact sum of products and addend. -/
def Obligations.multiply_sum_modulo : Prop :=
  ∀ (s : State) (vd va vb vc : VReg), s.vecAvailable = true →
    WritesElements 16 vd s (exec (.vmladduhm vd va vb vc) s) (fun k =>
      elem 16 (s.getVr va) k * elem 16 (s.getVr vb) k + elem 16 (s.getVr vc) k) ∧
    WritesElements 32 vd s (exec (.vmsumubm vd va vb vc) s) (fun k =>
      elem 32 (s.getVr vc) k + BitVec.ofNat 32 (((List.range 4).map fun j =>
        (elem 8 (s.getVr va) (4 * k + j)).toNat * (elem 8 (s.getVr vb) (4 * k + j)).toNat).sum)) ∧
    WritesElements 32 vd s (exec (.vmsummbm vd va vb vc) s) (fun k =>
      elem 32 (s.getVr vc) k + BitVec.ofInt 32 (((List.range 4).map fun j =>
        (elem 8 (s.getVr va) (4 * k + j)).toInt * ((elem 8 (s.getVr vb) (4 * k + j)).toNat : Int)).sum)) ∧
    WritesElements 32 vd s (exec (.vmsumuhm vd va vb vc) s) (fun k =>
      elem 32 (s.getVr vc) k + BitVec.ofNat 32 (((List.range 2).map fun j =>
        (elem 16 (s.getVr va) (2 * k + j)).toNat * (elem 16 (s.getVr vb) (2 * k + j)).toNat).sum)) ∧
    WritesElements 32 vd s (exec (.vmsumshm vd va vb vc) s) (fun k =>
      elem 32 (s.getVr vc) k + BitVec.ofInt 32 (((List.range 2).map fun j =>
        (elem 16 (s.getVr va) (2 * k + j)).toInt * (elem 16 (s.getVr vb) (2 * k + j)).toInt).sum))

/-- `vmsumshs` and `vmsumuhs` clamp the exact sum of both products and the addend once. -/
def Obligations.multiply_sum_saturating : Prop :=
  ∀ (s : State) (vd va vb vc : VReg), s.vecAvailable = true →
    WritesSigned 32 vd s (exec (.vmsumshs vd va vb vc) s) (fun k =>
      (elem 32 (s.getVr vc) k).toInt +
        (elem 16 (s.getVr va) (2 * k)).toInt * (elem 16 (s.getVr vb) (2 * k)).toInt +
        (elem 16 (s.getVr va) (2 * k + 1)).toInt * (elem 16 (s.getVr vb) (2 * k + 1)).toInt) ∧
    WritesUnsigned 32 vd s (exec (.vmsumuhs vd va vb vc) s) (fun k =>
      ((elem 32 (s.getVr vc) k).toNat : Int) +
        (elem 16 (s.getVr va) (2 * k)).toNat * (elem 16 (s.getVr vb) (2 * k)).toNat +
        (elem 16 (s.getVr va) (2 * k + 1)).toNat * (elem 16 (s.getVr vb) (2 * k + 1)).toNat)

/-- The eight even and odd multiplies write full products, which always fit. -/
def Obligations.even_odd_multiplies : Prop :=
  ∀ (s : State) (vd va vb : VReg) (odd : Nat) (sb sh ub uh : Instr), s.vecAvailable = true →
    (odd, sb, sh, ub, uh) ∈
      [(0, Instr.vmulesb vd va vb, Instr.vmulesh vd va vb, Instr.vmuleub vd va vb, Instr.vmuleuh vd va vb),
        (1, Instr.vmulosb vd va vb, Instr.vmulosh vd va vb, Instr.vmuloub vd va vb, Instr.vmulouh vd va vb)] →
    (∃ f, WritesElements 16 vd s (exec sb s) f ∧ ∀ k, k < 8 →
      (f k).toInt = (elem 8 (s.getVr va) (2 * k + odd)).toInt * (elem 8 (s.getVr vb) (2 * k + odd)).toInt) ∧
    (∃ f, WritesElements 32 vd s (exec sh s) f ∧ ∀ k, k < 4 →
      (f k).toInt = (elem 16 (s.getVr va) (2 * k + odd)).toInt * (elem 16 (s.getVr vb) (2 * k + odd)).toInt) ∧
    (∃ f, WritesElements 16 vd s (exec ub s) f ∧ ∀ k, k < 8 →
      (f k).toNat = (elem 8 (s.getVr va) (2 * k + odd)).toNat * (elem 8 (s.getVr vb) (2 * k + odd)).toNat) ∧
    ∃ f, WritesElements 32 vd s (exec uh s) f ∧ ∀ k, k < 4 →
      (f k).toNat = (elem 16 (s.getVr va) (2 * k + odd)).toNat * (elem 16 (s.getVr vb) (2 * k + odd)).toNat

/-- The sums across: one clamped sum into word 3, two into words 1 and 3 with the words between cleared, or one per
word. -/
def Obligations.sums_across : Prop :=
  ∀ (s : State) (vd va vb : VReg), s.vecAvailable = true →
    WritesSigned 32 vd s (exec (.vsumsws vd va vb) s) (fun k => if k = 3 then
      (elem 32 (s.getVr vb) 3).toInt + (elem 32 (s.getVr va) 0).toInt + (elem 32 (s.getVr va) 1).toInt +
        (elem 32 (s.getVr va) 2).toInt + (elem 32 (s.getVr va) 3).toInt else 0) ∧
    WritesSigned 32 vd s (exec (.vsum2sws vd va vb) s) (fun k => if k % 2 = 1 then
      (elem 32 (s.getVr vb) k).toInt + (elem 32 (s.getVr va) (k - 1)).toInt + (elem 32 (s.getVr va) k).toInt else 0) ∧
    WritesSigned 32 vd s (exec (.vsum4sbs vd va vb) s) (fun k => (elem 32 (s.getVr vb) k).toInt +
      ((List.range 4).map fun j => (elem 8 (s.getVr va) (4 * k + j)).toInt).sum) ∧
    WritesSigned 32 vd s (exec (.vsum4shs vd va vb) s) (fun k => (elem 32 (s.getVr vb) k).toInt +
      ((List.range 2).map fun j => (elem 16 (s.getVr va) (2 * k + j)).toInt).sum) ∧
    WritesUnsigned 32 vd s (exec (.vsum4ubs vd va vb) s) (fun k => ((elem 32 (s.getVr vb) k).toNat : Int) +
      ((List.range 4).map fun j => ((elem 8 (s.getVr va) (4 * k + j)).toNat : Int)).sum)

/-! Logical, rotate, shift. -/

/-- The logical instructions and the select act on each bit of the registers. -/
def Obligations.logical_and_select : Prop :=
  ∀ (s : State) (vd va vb vc : VReg) (i : Instr) (f : Bool → Bool → Bool → Bool), s.vecAvailable = true →
    (i = .vand vd va vb ∧ f = (fun a b _ => a && b)) ∨ (i = .vandc vd va vb ∧ f = (fun a b _ => a && !b)) ∨
    (i = .vnor vd va vb ∧ f = (fun a b _ => !(a || b))) ∨ (i = .vor vd va vb ∧ f = (fun a b _ => a || b)) ∨
    (i = .vxor vd va vb ∧ f = (fun a b _ => a != b)) ∨ (i = .vsel vd va vb vc ∧ f = (fun a b c => if c then b else a)) →
    ∃ v, WritesRegister vd s (exec i s) v ∧
      ∀ n, n < 128 → v.getLsbD n = f ((s.getVr va).getLsbD n) ((s.getVr vb).getLsbD n) ((s.getVr vc).getLsbD n)

/-- R250: the rotates and element shifts take their count from the low bits of each `vB` element. -/
def Obligations.rotates_and_element_shifts : Prop :=
  ∀ (s : State) (vd va vb : VReg) (w : Nat) (rl sl sr sra : Instr), s.vecAvailable = true →
    (w, rl, sl, sr, sra) ∈
      [(8, Instr.vrlb vd va vb, Instr.vslb vd va vb, Instr.vsrb vd va vb, Instr.vsrab vd va vb),
        (16, Instr.vrlh vd va vb, Instr.vslh vd va vb, Instr.vsrh vd va vb, Instr.vsrah vd va vb),
        (32, Instr.vrlw vd va vb, Instr.vslw vd va vb, Instr.vsrw vd va vb, Instr.vsraw vd va vb)] →
    (∃ f : Nat → BitVec w, WritesElements w vd s (exec rl s) f ∧ ∀ k n, k < 128 / w → n < w →
      (f k).getLsbD ((n + (elem w (s.getVr vb) k).toNat) % w) = (elem w (s.getVr va) k).getLsbD n) ∧
    (∃ f : Nat → BitVec w, WritesElements w vd s (exec sl s) f ∧ ∀ k, k < 128 / w →
      (f k).toNat = (elem w (s.getVr va) k).toNat * 2 ^ ((elem w (s.getVr vb) k).toNat % w) % 2 ^ w) ∧
    (∃ f : Nat → BitVec w, WritesElements w vd s (exec sr s) f ∧ ∀ k, k < 128 / w →
      (f k).toNat = (elem w (s.getVr va) k).toNat / 2 ^ ((elem w (s.getVr vb) k).toNat % w)) ∧
    ∃ f : Nat → BitVec w, WritesElements w vd s (exec sra s) f ∧ ∀ k, k < 128 / w →
      (f k).toInt = (elem w (s.getVr va) k).toInt / 2 ^ ((elem w (s.getVr vb) k).toNat % w)

/-- `vsl` and `vsr` shift the whole register by bits 125:127 of `vB` when the low three bits of all its bytes agree
with them; otherwise the register becomes the next free value and the instruction completes all the same. The free
value is log entry 11. -/
def Obligations.whole_register_bit_shifts : Prop :=
  ∀ (s : State) (vd va vb : VReg) (sh : Nat), s.vecAvailable = true → sh = (s.getVr vb).toNat % 8 →
    ((∀ k, k < 16 → (elem 8 (s.getVr vb) k).toNat % 8 = sh) →
      WritesRegister vd s (exec (.vsl vd va vb) s) (BitVec.ofNat 128 ((s.getVr va).toNat * 2 ^ sh)) ∧
      WritesRegister vd s (exec (.vsr vd va vb) s) (BitVec.ofNat 128 ((s.getVr va).toNat / 2 ^ sh))) ∧
    ((∃ k, k < 16 ∧ (elem 8 (s.getVr vb) k).toNat % 8 ≠ sh) →
      ∀ i, i ∈ [Instr.vsl vd va vb, Instr.vsr vd va vb] →
        ∃ t, exec i s = .next t ∧ t.getVr vd = Config.undef128 s.fresh ∧ t.fresh = s.fresh + 1 ∧
          t.cr = s.cr ∧ t.sat = s.sat ∧ RegisterFrame vd s t)

/-- `vslo` and `vsro` shift by the bytes that bits 121:124 of `vB` count, zeros entering; `vsldoi` takes 16 consecutive
bytes of `vA || vB`. -/
def Obligations.octet_shifts : Prop :=
  ∀ (s : State) (vd va vb : VReg) (n : Nat), s.vecAvailable = true → n = (s.getVr vb).toNat / 8 % 16 →
    WritesElements 8 vd s (exec (.vslo vd va vb) s) (fun k => if k + n < 16 then elem 8 (s.getVr va) (k + n) else 0) ∧
    WritesElements 8 vd s (exec (.vsro vd va vb) s) (fun k => if n ≤ k then elem 8 (s.getVr va) (k - n) else 0) ∧
    ∀ shb : BitVec 4, WritesElements 8 vd s (exec (.vsldoi vd va vb shb) s) (fun k =>
      if k + shb.toNat < 16 then elem 8 (s.getVr va) (k + shb.toNat) else elem 8 (s.getVr vb) (k + shb.toNat - 16))

/-! Merge, permute, pack, splat, unpack. -/

/-- The merges interleave one half of `vA` with the same half of `vB`; `vperm` picks each byte out of the 32 of
`vA || vB` by the low five bits of the selector byte. -/
def Obligations.merges_and_permute : Prop :=
  ∀ (s : State) (vd va vb : VReg), s.vecAvailable = true →
    (∀ w hi lo, (w, hi, lo) ∈ [(8, Instr.vmrghb vd va vb, Instr.vmrglb vd va vb),
        (16, Instr.vmrghh vd va vb, Instr.vmrglh vd va vb), (32, Instr.vmrghw vd va vb, Instr.vmrglw vd va vb)] →
      WritesElements w vd s (exec hi s) (fun k => elem w (s.getVr (if k % 2 = 0 then va else vb)) (k / 2)) ∧
      WritesElements w vd s (exec lo s) (fun k => elem w (s.getVr (if k % 2 = 0 then va else vb)) (64 / w + k / 2))) ∧
    ∀ vc : VReg, WritesElements 8 vd s (exec (.vperm vd va vb vc) s) (fun k =>
      if (elem 8 (s.getVr vc) k).toNat % 32 < 16 then elem 8 (s.getVr va) ((elem 8 (s.getVr vc) k).toNat % 32)
      else elem 8 (s.getVr vb) ((elem 8 (s.getVr vc) k).toNat % 32 - 16))

/-- The saturating packs clamp each wide element of `vA` and then of `vB` into an element of half the width and set SAT
where one was clamped. -/
def Obligations.packs_saturating : Prop :=
  ∀ (s : State) (vd va vb : VReg) (wide : Nat → Nat → Word), s.vecAvailable = true →
    (∀ w j, wide w j = (if j < 128 / w then elem w (s.getVr va) j else elem w (s.getVr vb) (j - 128 / w)).signExtend 32) →
    WritesSigned 8 vd s (exec (.vpkshss vd va vb) s) (fun j => (wide 16 j).toInt) ∧
    WritesUnsigned 8 vd s (exec (.vpkshus vd va vb) s) (fun j => (wide 16 j).toInt) ∧
    WritesUnsigned 8 vd s (exec (.vpkuhus vd va vb) s) (fun j => ((wide 16 j).toNat % 2 ^ 16 : Nat)) ∧
    WritesSigned 16 vd s (exec (.vpkswss vd va vb) s) (fun j => (wide 32 j).toInt) ∧
    WritesUnsigned 16 vd s (exec (.vpkswus vd va vb) s) (fun j => (wide 32 j).toInt) ∧
    WritesUnsigned 16 vd s (exec (.vpkuwus vd va vb) s) (fun j => (wide 32 j).toNat)

/-- The modulo packs keep the low half of each wide element of `vA` and then of `vB`; `vpkpx` keeps bits 7, 8:12, 16:20
and 24:28 of each pixel. -/
def Obligations.packs_modulo_and_pixel : Prop :=
  ∀ (s : State) (vd va vb : VReg), s.vecAvailable = true →
    WritesElements 8 vd s (exec (.vpkuhum vd va vb) s) (fun j =>
      elem 8 (s.getVr (if j < 8 then va else vb)) (2 * (j % 8) + 1)) ∧
    WritesElements 16 vd s (exec (.vpkuwum vd va vb) s) (fun j =>
      elem 16 (s.getVr (if j < 4 then va else vb)) (2 * (j % 4) + 1)) ∧
    ∃ f, WritesElements 16 vd s (exec (.vpkpx vd va vb) s) f ∧ ∀ j n, j < 8 → n < 16 →
      (f j).getLsbD n = (elem 32 (s.getVr (if j < 4 then va else vb)) (j % 4)).getLsbD
        (if n = 15 then 24 else 3 + n + 3 * (n / 5))

/-- The splats repeat one element of `vB`, for every index that names one, or the sign-extended immediate. -/
def Obligations.splats : Prop :=
  ∀ (s : State) (vd vb : VReg) (u : BitVec 5), s.vecAvailable = true →
    (u.toNat ≤ 15 → WritesElements 8 vd s (exec (.vspltb vd vb u) s) (fun _ => elem 8 (s.getVr vb) u.toNat)) ∧
    (u.toNat ≤ 7 → WritesElements 16 vd s (exec (.vsplth vd vb u) s) (fun _ => elem 16 (s.getVr vb) u.toNat)) ∧
    (u.toNat ≤ 3 → WritesElements 32 vd s (exec (.vspltw vd vb u) s) (fun _ => elem 32 (s.getVr vb) u.toNat)) ∧
    WritesElements 8 vd s (exec (.vspltisb vd u) s) (fun _ => BitVec.ofInt 8 u.toInt) ∧
    WritesElements 16 vd s (exec (.vspltish vd u) s) (fun _ => BitVec.ofInt 16 u.toInt) ∧
    WritesElements 32 vd s (exec (.vspltisw vd u) s) (fun _ => BitVec.ofInt 32 u.toInt)

/-- The unpacks widen the elements of one half of `vB`: sign extension, or the four channels of a pixel. -/
def Obligations.unpacks : Prop :=
  ∀ (s : State) (vd vb : VReg), s.vecAvailable = true →
    (∀ half i j p, (half, i, j, p) ∈
        [(0, Instr.vupkhsb vd vb, Instr.vupkhsh vd vb, Instr.vupkhpx vd vb),
          (1, Instr.vupklsb vd vb, Instr.vupklsh vd vb, Instr.vupklpx vd vb)] →
      WritesElements 16 vd s (exec i s) (fun k => BitVec.ofInt 16 (elem 8 (s.getVr vb) (8 * half + k)).toInt) ∧
      WritesElements 32 vd s (exec j s) (fun k => BitVec.ofInt 32 (elem 16 (s.getVr vb) (4 * half + k)).toInt) ∧
      WritesElements 32 vd s (exec p s) (fun k => BitVec.ofNat 32
        ((if (elem 16 (s.getVr vb) (4 * half + k)).toNat / 2 ^ 15 = 1 then 255 * 2 ^ 24 else 0) +
          (elem 16 (s.getVr vb) (4 * half + k)).toNat / 2 ^ 10 % 32 * 2 ^ 16 +
          (elem 16 (s.getVr vb) (4 * half + k)).toNat / 2 ^ 5 % 32 * 2 ^ 8 +
          (elem 16 (s.getVr vb) (4 * half + k)).toNat % 32)))

/-! Floating point. -/

/-- The rounding of an exact quotient in units of 2^-149 gives the nearest word, ties to even, denormalized words and
overflow to infinity included. R322 takes the rounding from IEEE 754 (log entry 30). -/
def Obligations.rounding_to_nearest_even : Prop :=
  ∀ (z : Int) (d : Nat), z ≠ 0 → 0 < d → RoundsTo ((z : ℚ) / d / 2 ^ 149) (roundNE z d)

/-- `vaddfp` and `vsubfp`: the flushed operands' exact sum or difference, rounded once and flushed; a NaN operand, or
infinities that cancel, give a quiet NaN. Special operands are the spec's IEEE 754 conventions (log entry 30); the
flush of the rounded result is D21 (log entry 27), which NaN is D12 (log entry 10). -/
def Obligations.float_add_subtract : Prop :=
  ∀ (s : State) (vd va vb : VReg), s.vecAvailable = true →
    ∃ f g, WritesElements 32 vd s (exec (.vaddfp vd va vb) s) f ∧ WritesElements 32 vd s (exec (.vsubfp vd va vb) s) g ∧
      ∀ k a b, k < 4 → a = njWord s (elem 32 (s.getVr va) k) → b = njWord s (elem 32 (s.getVr vb) k) →
        (isNaN a = true ∨ isNaN b = true → QuietNaN s [a, b] (f k) ∧ QuietNaN s [a, b] (g k)) ∧
        (isNaN a = false → isNaN b = false → SumResult s a b (f k) ∧ SumResult s a (b ^^^ 0x80000000) (g k))

/-- `vmaddfp` and `vnmsubfp`: the exact product plus or minus the addend with one rounding; `vnmsubfp` inverts the
sign of every result but a NaN. Special operands are the spec's IEEE 754 conventions (log entry 30); the flush in
`vnmsubfp` is D13 (log entry 25), the flush of the rounded result is D21 (log entry 27), which NaN is D12 (log entry
10). -/
def Obligations.float_multiply_add : Prop :=
  ∀ (s : State) (vd va vc vb : VReg), s.vecAvailable = true →
    ∃ f g, WritesElements 32 vd s (exec (.vmaddfp vd va vc vb) s) f ∧
      WritesElements 32 vd s (exec (.vnmsubfp vd va vc vb) s) g ∧
      ∀ k a c b, k < 4 → a = njWord s (elem 32 (s.getVr va) k) → c = njWord s (elem 32 (s.getVr vc) k) →
        b = njWord s (elem 32 (s.getVr vb) k) →
        (isNaN a = true ∨ isNaN b = true ∨ isNaN c = true →
          QuietNaN s [a, b, c] (f k) ∧ QuietNaN s [a, b, c] (g k)) ∧
        (isNaN a = false → isNaN b = false → isNaN c = false →
          MultiplyAddResult s a c b (f k) ∧
          ∃ r, MultiplyAddResult s a c (b ^^^ 0x80000000) r ∧ g k = if isNaN r = true then r else r ^^^ 0x80000000)

/-- `vmaxfp` and `vminfp` return the greater and the smaller flushed operand; of two zeros the maximum is -0 only
where both are, the minimum where one is; a NaN operand gives a quiet NaN. The order of the operands, infinities
included, is R324, IEEE 754 as the spec adopts it (log entry 30). The flushed operand as the result is D18 (log
entry 26), which NaN is D12 (log entry 10), the flush in `vmaxfp` is D13 (log entry 25). -/
def Obligations.float_maximum_minimum : Prop :=
  ∀ (s : State) (vd va vb : VReg), s.vecAvailable = true →
    ∃ f g, WritesElements 32 vd s (exec (.vmaxfp vd va vb) s) f ∧ WritesElements 32 vd s (exec (.vminfp vd va vb) s) g ∧
      ∀ k a b, k < 4 → a = njWord s (elem 32 (s.getVr va) k) → b = njWord s (elem 32 (s.getVr vb) k) →
        if isNaN a = true ∨ isNaN b = true then QuietNaN s [a, b] (f k) ∧ QuietNaN s [a, b] (g k)
        else if isZero a = true ∧ isZero b = true then
          f k = (if a = 0x80000000 ∧ b = 0x80000000 then 0x80000000 else 0) ∧
          g k = if a = 0x80000000 ∨ b = 0x80000000 then 0x80000000 else 0
        else (f k = a ∨ f k = b) ∧ FpLe a (f k) ∧ FpLe b (f k) ∧ (g k = a ∨ g k = b) ∧ FpLe (g k) a ∧ FpLe (g k) b

/-- The four floating-point compares. Equal, greater-or-equal and greater write all ones or zeros and the summary of
`Rc = 1`; the bounds compare writes two bits, above the bound and below its negation, and with `Rc = 1` bit 2 of CR6
says whether all elements are in bounds. A NaN makes every predicate false. The order, with equal zeros and
infinities at the ends, is R324, IEEE 754 as the spec adopts it (log entry 30). The flush on the three pages that do
not mention NJ is D13 (log entry 25). -/
def Obligations.float_compares : Prop :=
  ∀ (s : State) (vd va vb : VReg) (rc : Bool) (a b : Nat → Word), s.vecAvailable = true →
    a = (fun k => njWord s (elem 32 (s.getVr va) k)) → b = (fun k => njWord s (elem 32 (s.getVr vb) k)) →
    WritesCompare 32 vd rc s (exec (.vcmpeqfp vd va vb rc) s) (fun k => FpLe (a k) (b k) ∧ FpLe (b k) (a k)) ∧
    WritesCompare 32 vd rc s (exec (.vcmpgefp vd va vb rc) s) (fun k => FpLe (b k) (a k)) ∧
    WritesCompare 32 vd rc s (exec (.vcmpgtfp vd va vb rc) s) (fun k => FpLe (b k) (a k) ∧ ¬FpLe (a k) (b k)) ∧
    ∃ t, exec (.vcmpbfp vd va vb rc) s = .next t ∧
      (∀ k, k < 4 → ((elem 32 (t.getVr vd) k).getLsbD 31 = true ↔ ¬FpLe (a k) (b k)) ∧
        ((elem 32 (t.getVr vd) k).getLsbD 30 = true ↔ ¬FpLe (b k ^^^ 0x80000000) (a k)) ∧
        (elem 32 (t.getVr vd) k).extractLsb' 0 30 = 0) ∧
      (rc = false → t.cr = s.cr) ∧
      (rc = true → (∀ k, k < 4 → FpLe (a k) (b k) ∧ FpLe (b k ^^^ 0x80000000) (a k)) → Cr6Becomes 0b0010 s t) ∧
      (rc = true → (∃ k, k < 4 ∧ ¬(FpLe (a k) (b k) ∧ FpLe (b k ^^^ 0x80000000) (a k))) → Cr6Becomes 0b0000 s t) ∧
      t.sat = s.sat ∧ t.fresh = s.fresh ∧ RegisterFrame vd s t

/-- `vcfsx` and `vcfux`: the integer divided by the power of two, rounded once; zero gives +0. The rounding is the
spec's IEEE 754 convention (log entry 30). -/
def Obligations.float_from_integer : Prop :=
  ∀ (s : State) (vd vb : VReg) (u : BitVec 5), s.vecAvailable = true →
    ∃ f g, WritesElements 32 vd s (exec (.vcfsx vd vb u) s) f ∧ WritesElements 32 vd s (exec (.vcfux vd vb u) s) g ∧
      ∀ k x, k < 4 → x = elem 32 (s.getVr vb) k →
        (x = 0 → f k = 0 ∧ g k = 0) ∧
        (x ≠ 0 → RoundsTo ((x.toInt : ℚ) / 2 ^ u.toNat) (f k) ∧ RoundsTo ((x.toNat : ℚ) / 2 ^ u.toNat) (g k))

/-- `vctsxs` and `vctuxs`: the operand times the power of two, toward zero, clamped; SAT becomes 1 where a value was
clamped, and a NaN gives 0 without it. That an infinity lies beyond every range is IEEE 754 as the spec adopts it
(log entry 30). The NaN and the order of truncation and clamping are D22 and D19 (log entry 28). -/
def Obligations.float_to_integer : Prop :=
  ∀ (s : State) (vd vb : VReg) (u : BitVec 5), s.vecAvailable = true →
    WritesSigned 32 vd s (exec (.vctsxs vd vb u) s) (fun k => convertedInt (elem 32 (s.getVr vb) k) u.toNat) ∧
    WritesUnsigned 32 vd s (exec (.vctuxs vd vb u) s) (fun k => convertedInt (elem 32 (s.getVr vb) k) u.toNat)

/-- `vrfim`, `vrfip`, `vrfiz` and `vrfin` round toward minus infinity, plus infinity, zero and the nearest integer,
the even one of two; a zero result keeps the sign of the operand. Special operands are the spec's IEEE 754
conventions (log entry 30), the flush in `vrfim` is D13 (log entry 25), which NaN is D12 (log entry 10). -/
def Obligations.float_round_to_integral : Prop :=
  ∀ (s : State) (vd vb : VReg) (x y : Nat → Word), s.vecAvailable = true →
    x = (fun k => elem 32 (s.getVr vb) k) → y = (fun k => njWord s (x k)) →
    ∃ m n p z, WritesElements 32 vd s (exec (.vrfim vd vb) s) m ∧ WritesElements 32 vd s (exec (.vrfin vd vb) s) n ∧
      WritesElements 32 vd s (exec (.vrfip vd vb) s) p ∧ WritesElements 32 vd s (exec (.vrfiz vd vb) s) z ∧
      ∀ k, k < 4 → IntegralResult s (fun q i => i = ⌊q⌋) (y k) (m k) ∧
        IntegralResult s (fun q i => |q - i| ≤ 1 / 2 ∧ (|q - i| = 1 / 2 → i % 2 = 0)) (x k) (n k) ∧
        IntegralResult s (fun q i => i = ⌈q⌉) (y k) (p k) ∧
        IntegralResult s (fun q i => i = towardZero q) (x k) (z k)

/-- `vrefp`: the special values of Table 6-7; elsewhere a word of the operand's sign that is no NaN, and within one
part in 4096 of `1/x` where that is in the range of normalized numbers. Sign and class outside that range are D23
(log entry 13); the word itself is free (log entry 12). Which NaN is D12 (log entry 10), the flush of the result D21
(log entry 27). -/
def Obligations.reciprocal_estimate : Prop :=
  ∀ (s : State) (vd vb : VReg), s.vecAvailable = true →
    ∃ f, DrawsElements 32 vd s (exec (.vrefp vd vb) s) f ∧
      ∀ k x, k < 4 → x = njWord s (elem 32 (s.getVr vb) k) →
        (isNaN x = true → QuietNaN s [x] (f k)) ∧
        (x = 0xFF800000 → f k = 0x80000000) ∧ (x = 0x80000000 → f k = 0xFF800000) ∧
        (x = 0x00000000 → f k = 0x7F800000) ∧ (x = 0x7F800000 → f k = 0x00000000) ∧
        (isFinite x = true → isZero x = false → ∃ r, f k = njWord s r ∧ isNaN r = false ∧ fpSign r = fpSign x ∧
          (1 / 2 ^ 126 ≤ |1 / fpRat x| → |1 / fpRat x| < 2 ^ 128 →
            isFinite r = true ∧ isZero r = false ∧ |fpRat r - 1 / fpRat x| / |1 / fpRat x| ≤ 1 / 4096))

/-- `vrsqrtefp`: the special values of Table 6-8; elsewhere a finite positive word within one part in 4096 of
`1/√x`. The flush is D13 (log entry 25); the word itself is free (log entry 12). Which NaN is D12 (log entry 10). -/
def Obligations.reciprocal_square_root_estimate : Prop :=
  ∀ (s : State) (vd vb : VReg), s.vecAvailable = true →
    ∃ f, DrawsElements 32 vd s (exec (.vrsqrtefp vd vb) s) f ∧
      ∀ k x, k < 4 → x = njWord s (elem 32 (s.getVr vb) k) →
        (isNaN x = true → QuietNaN s [x] (f k)) ∧
        (x = 0x80000000 → f k = 0xFF800000) ∧ (x = 0x00000000 → f k = 0x7F800000) ∧ (x = 0x7F800000 → f k = 0x00000000) ∧
        (isNaN x = false → isZero x = false → fpSign x = true → QuietNaN s [] (f k)) ∧
        (isFinite x = true → isZero x = false → fpSign x = false →
          isFinite (f k) = true ∧ 0 < fpRat (f k) ∧
          |(fpRat (f k) : ℝ) - 1 / Real.sqrt (fpRat x)| / (1 / Real.sqrt (fpRat x)) ≤ 1 / 4096)

/-- `vexptefp`: the special values of Table 6-5; elsewhere a positive word or +0 that is no NaN, within one part in
16 of `2^x` where that is in the range of normalized numbers, and exact where `x` is an integer from -149 to 127.
Sign and class outside that range are D23 (log entry 13); the word itself is free (log entry 12). Which NaN is D12
(log entry 10), the flush of the result D21 (log entry 27). -/
def Obligations.power_of_two_estimate : Prop :=
  ∀ (s : State) (vd vb : VReg), s.vecAvailable = true →
    ∃ f, DrawsElements 32 vd s (exec (.vexptefp vd vb) s) f ∧
      ∀ k x, k < 4 → x = njWord s (elem 32 (s.getVr vb) k) →
        (isNaN x = true → QuietNaN s [x] (f k)) ∧
        (x = 0xFF800000 → f k = 0x00000000) ∧ (isZero x = true → f k = 0x3F800000) ∧
        (x = 0x7F800000 → f k = 0x7F800000) ∧
        (isFinite x = true → isZero x = false → ∃ r, f k = njWord s r ∧ isNaN r = false ∧ fpSign r = false ∧
          (1 / 2 ^ 126 ≤ (2 : ℝ) ^ (fpRat x : ℝ) → (2 : ℝ) ^ (fpRat x : ℝ) < 2 ^ 128 →
            isFinite r = true ∧ |(fpRat r : ℝ) - 2 ^ (fpRat x : ℝ)| / 2 ^ (fpRat x : ℝ) ≤ 1 / 16) ∧
          ∀ n : Int, fpRat x = n → -149 ≤ n → n ≤ 127 → isFinite r = true ∧ fpRat r = (2 : ℚ) ^ n)

/-- `vlogefp`: the special values of Table 6-6; elsewhere a finite word, within 1/32 of `log2 x` unless `x` is
within 1/8 of 1. The weakest reading of the page is the spec's (90_conflicts.md C38); the word itself is free (log
entry 12). Which NaN is D12 (log entry 10), the flush of the result D21 (log entry 27). -/
def Obligations.base_two_logarithm_estimate : Prop :=
  ∀ (s : State) (vd vb : VReg), s.vecAvailable = true →
    ∃ f, DrawsElements 32 vd s (exec (.vlogefp vd vb) s) f ∧
      ∀ k x, k < 4 → x = njWord s (elem 32 (s.getVr vb) k) →
        (isNaN x = true → QuietNaN s [x] (f k)) ∧
        (isZero x = true → f k = 0xFF800000) ∧ (x = 0x7F800000 → f k = 0x7F800000) ∧
        (isNaN x = false → isZero x = false → fpSign x = true → QuietNaN s [] (f k)) ∧
        (isFinite x = true → isZero x = false → fpSign x = false → ∃ r, f k = njWord s r ∧ isFinite r = true ∧
          (1 / 8 < |fpRat x - 1| → |(fpRat r : ℝ) - Real.logb 2 (fpRat x)| ≤ 1 / 32))
end

