-- ==== Sys2Proof/Laws/Elements.lean ====
section
/-! SUPPORT. Elements of a built vector. -/

namespace Sys2Proof.Machine

/-- A bit of a built vector: bit `i` from the least significant end lies in element `n - 1 - i / w`. -/
theorem getLsbD_ofElems (w n : Nat) (f : Nat → BitVec w) (i : Nat) (hw : 0 < w) (hi : i < 128) (hn : i < w * n) :
    (ofElems w n f).getLsbD i = (f (n - 1 - i / w)).getLsbD (i % w) := by
  induction n generalizing i with
  | zero => omega
  | succ n ih =>
    rw [ofElems, BitVec.getLsbD_or, BitVec.getLsbD_shiftLeft, BitVec.getLsbD_setWidth]
    by_cases h : i < w
    · have h0 : i / w = 0 := Nat.div_eq_of_lt h
      simp [hi, h, h0, Nat.mod_eq_of_lt h]
    · have hb : (f n).getLsbD i = false := BitVec.getLsbD_of_ge _ _ (by omega)
      have e : (i - w) / w = i / w - 1 := by
        rw [Nat.div_eq_sub_div hw (by omega : w ≤ i), Nat.add_sub_cancel]
      have e1 : i / w ≥ 1 := (Nat.one_le_div_iff hw).2 (by omega)
      have e2 : (i - w) % w = i % w := (Nat.mod_eq_sub_mod (by omega)).symm
      have hm : i - w < w * n := by rw [Nat.mul_succ] at hn; omega
      rw [ih (i - w) (by omega) hm, e, e2]
      have e3 : n - 1 - (i / w - 1) = n + 1 - 1 - i / w := by omega
      simp [hi, h, hb, e3]

/-- Element `k` of a vector built from `f` is `f k`. -/
theorem elem_vecOf (w : Nat) (f : Nat → BitVec w) (k : Nat) (hw : w = 8 ∨ w = 16 ∨ w = 32) (hk : k < 128 / w) :
    elem w (vecOf w f) k = f k := by
  have hw0 : 0 < w := by rcases hw with rfl | rfl | rfl <;> decide
  have hd : w * (128 / w) = 128 := by rcases hw with rfl | rfl | rfl <;> rfl
  have hle : w * (k + 1) ≤ 128 := hd ▸ Nat.mul_le_mul_left w hk
  apply BitVec.eq_of_getLsbD_eq
  intro i hi
  have hs : w * (k + 1) = w * k + w := Nat.mul_succ w k
  rw [elem, BitVec.getLsbD_extractLsb', vecOf]
  have hlt : 128 - w * (k + 1) + i < 128 := by omega
  rw [getLsbD_ofElems w _ f _ hw0 hlt (by omega)]
  have e : 128 - w * (k + 1) + i = w * (128 / w - 1 - k) + i := by
    have h1 : w * (128 / w - 1 - k) = 128 - w * (k + 1) := by
      rw [Nat.sub_sub, Nat.mul_sub, hd, Nat.add_comm]
    omega
  rw [e, Nat.mul_add_div hw0, Nat.mul_add_mod, Nat.div_eq_of_lt hi, Nat.mod_eq_of_lt hi]
  have e2 : 128 / w - 1 - (128 / w - 1 - k + 0) = k := by omega
  rw [e2, decide_eq_true hi, Bool.true_and]

theorem elem8_vecOf (f : Nat → BitVec 8) {k : Nat} (hk : k < 16) : elem 8 (vecOf 8 f) k = f k :=
  elem_vecOf 8 f k (.inl rfl) hk

theorem elem16_vecOf (f : Nat → BitVec 16) {k : Nat} (hk : k < 8) : elem 16 (vecOf 16 f) k = f k :=
  elem_vecOf 16 f k (.inr (.inl rfl)) hk

theorem elem32_vecOf (f : Nat → BitVec 32) {k : Nat} (hk : k < 4) : elem 32 (vecOf 32 f) k = f k :=
  elem_vecOf 32 f k (.inr (.inr rfl)) hk

/-- A replaced element reads the new value, the others the old ones. -/
theorem elem_setElem (w : Nat) (x : Vec) (j : Nat) (v : BitVec w) (k : Nat) (hw : w = 8 ∨ w = 16 ∨ w = 32)
    (hk : k < 128 / w) : elem w (setElem w x j v) k = if k = j then v else elem w x k :=
  elem_vecOf w _ k hw hk

/-- The flag of a saturating vector: some element was clamped (R9, R27). -/
theorem vecOfSat_flag (w : Nat) (f : Nat → BitVec w × Bool) :
    (vecOfSat w f).2 = true ↔ ∃ k < 128 / w, (f k).2 = true := by
  simp [vecOfSat]

/-- Two vectors with the same elements are the same. -/
theorem vec_ext (w : Nat) {x y : Vec} (hw : w = 8 ∨ w = 16 ∨ w = 32)
    (h : ∀ k < 128 / w, elem w x k = elem w y k) : x = y := by
  have hw0 : 0 < w := by rcases hw with rfl | rfl | rfl <;> decide
  have hd : w * (128 / w) = 128 := by rcases hw with rfl | rfl | rfl <;> rfl
  apply BitVec.eq_of_getLsbD_eq
  intro i hi
  have hq : i / w < 128 / w := by rw [Nat.div_lt_iff_lt_mul hw0, Nat.mul_comm, hd]; exact hi
  have hpos : ∀ q r : Nat, r < q → q - 1 - r < q := by omega
  have hk := h (128 / w - 1 - i / w) (hpos _ _ hq)
  have hb := congrArg (fun z => z.getLsbD (i % w)) hk
  simp only [elem, BitVec.getLsbD_extractLsb', Nat.mod_lt _ hw0, decide_true, Bool.true_and] at hb
  have e : 128 - w * (128 / w - 1 - i / w + 1) + i % w = i := by
    have h1 : 128 / w - 1 - i / w + 1 = 128 / w - i / w := by
      have : ∀ q r : Nat, r < q → q - 1 - r + 1 = q - r := by omega
      exact this _ _ hq
    have h2 : w * (i / w) ≤ 128 := le_trans (Nat.mul_le_mul_left w hq.le) hd.le
    rw [h1, Nat.mul_sub, hd, Nat.sub_sub_self h2]
    exact Nat.div_add_mod i w
  rwa [e] at hb

end Sys2Proof.Machine
end

