-- ==== Sys2Proof/Laws/Encoding.lean ====
section
/-! SUPPORT. The fields of the words the encoder builds. -/

namespace Sys2Proof

/-- A field that lies in the low part of an appended value. -/
theorem extract_append_low {n m : Nat} (x : BitVec n) (y : BitVec m) {lo len : Nat} (h : lo + len ≤ m) :
    (x ++ y).extractLsb' lo len = y.extractLsb' lo len := by
  apply BitVec.eq_of_getLsbD_eq
  intro i hi
  simp only [BitVec.getLsbD_extractLsb', BitVec.getLsbD_append, hi, decide_true, Bool.true_and]
  rw [if_pos (by omega)]

/-- A field that lies in the high part of an appended value. -/
theorem extract_append_high {n m : Nat} (x : BitVec n) (y : BitVec m) {lo len : Nat} (h : m ≤ lo) :
    (x ++ y).extractLsb' lo len = x.extractLsb' (lo - m) len := by
  apply BitVec.eq_of_getLsbD_eq
  intro i hi
  simp only [BitVec.getLsbD_extractLsb', BitVec.getLsbD_append, hi, decide_true, Bool.true_and]
  rw [if_neg (by omega), show lo + i - m = lo - m + i by omega]

/-- All of a value. -/
theorem extract_all {n : Nat} (x : BitVec n) : x.extractLsb' 0 n = x := BitVec.extractLsb'_eq_self

section
variable (d a b c : BitVec 5)

/-! The VX form. -/

theorem formVX_primary (xo : BitVec 11) : fieldPrimary (formVX d a b xo) = 4 := by
  unfold fieldPrimary formVX
  rw [extract_append_high _ _ (by decide), extract_append_high _ _ (by decide), extract_append_high _ _ (by decide),
    extract_append_high _ _ (by decide)]
  rfl

theorem formVX_D (xo : BitVec 11) : fieldD (formVX d a b xo) = d := by
  unfold fieldD formVX
  rw [extract_append_high _ _ (by decide), extract_append_high _ _ (by decide), extract_append_high _ _ (by decide),
    extract_append_low _ _ (by decide)]
  exact extract_all d

theorem formVX_A (xo : BitVec 11) : fieldA (formVX d a b xo) = a := by
  unfold fieldA formVX
  rw [extract_append_high _ _ (by decide), extract_append_high _ _ (by decide), extract_append_low _ _ (by decide)]
  exact extract_all a

theorem formVX_B (xo : BitVec 11) : fieldB (formVX d a b xo) = b := by
  unfold fieldB formVX
  rw [extract_append_high _ _ (by decide), extract_append_low _ _ (by decide)]
  exact extract_all b

theorem formVX_xo (xo : BitVec 11) : fieldXoVX (formVX d a b xo) = xo := by
  unfold fieldXoVX formVX
  rw [extract_append_low _ _ (by decide)]
  exact extract_all xo

/-! The VXR form. -/

theorem formVXR_primary (rc : Bool) (xo : BitVec 10) : fieldPrimary (formVXR d a b rc xo) = 4 := by
  unfold fieldPrimary formVXR
  rw [extract_append_high _ _ (by decide), extract_append_high _ _ (by decide), extract_append_high _ _ (by decide),
    extract_append_high _ _ (by decide), extract_append_high _ _ (by decide)]
  rfl

theorem formVXR_D (rc : Bool) (xo : BitVec 10) : fieldD (formVXR d a b rc xo) = d := by
  unfold fieldD formVXR
  rw [extract_append_high _ _ (by decide), extract_append_high _ _ (by decide), extract_append_high _ _ (by decide),
    extract_append_high _ _ (by decide), extract_append_low _ _ (by decide)]
  exact extract_all d

theorem formVXR_A (rc : Bool) (xo : BitVec 10) : fieldA (formVXR d a b rc xo) = a := by
  unfold fieldA formVXR
  rw [extract_append_high _ _ (by decide), extract_append_high _ _ (by decide), extract_append_high _ _ (by decide),
    extract_append_low _ _ (by decide)]
  exact extract_all a

theorem formVXR_B (rc : Bool) (xo : BitVec 10) : fieldB (formVXR d a b rc xo) = b := by
  unfold fieldB formVXR
  rw [extract_append_high _ _ (by decide), extract_append_high _ _ (by decide), extract_append_low _ _ (by decide)]
  exact extract_all b

theorem formVXR_xo (rc : Bool) (xo : BitVec 10) : fieldXoVXR (formVXR d a b rc xo) = xo := by
  unfold fieldXoVXR formVXR
  rw [extract_append_low _ _ (by decide)]
  exact extract_all xo

/-! The VA form. -/

theorem formVA_primary (xo : BitVec 6) : fieldPrimary (formVA d a b c xo) = 4 := by
  unfold fieldPrimary formVA
  rw [extract_append_high _ _ (by decide), extract_append_high _ _ (by decide), extract_append_high _ _ (by decide),
    extract_append_high _ _ (by decide), extract_append_high _ _ (by decide)]
  rfl

theorem formVA_D (xo : BitVec 6) : fieldD (formVA d a b c xo) = d := by
  unfold fieldD formVA
  rw [extract_append_high _ _ (by decide), extract_append_high _ _ (by decide), extract_append_high _ _ (by decide),
    extract_append_high _ _ (by decide), extract_append_low _ _ (by decide)]
  exact extract_all d

theorem formVA_A (xo : BitVec 6) : fieldA (formVA d a b c xo) = a := by
  unfold fieldA formVA
  rw [extract_append_high _ _ (by decide), extract_append_high _ _ (by decide), extract_append_high _ _ (by decide),
    extract_append_low _ _ (by decide)]
  exact extract_all a

theorem formVA_B (xo : BitVec 6) : fieldB (formVA d a b c xo) = b := by
  unfold fieldB formVA
  rw [extract_append_high _ _ (by decide), extract_append_high _ _ (by decide), extract_append_low _ _ (by decide)]
  exact extract_all b

theorem formVA_C (xo : BitVec 6) : fieldC (formVA d a b c xo) = c := by
  unfold fieldC formVA
  rw [extract_append_high _ _ (by decide), extract_append_low _ _ (by decide)]
  exact extract_all c

theorem formVA_xo (xo : BitVec 6) : fieldXoVA (formVA d a b c xo) = xo := by
  unfold fieldXoVA formVA
  rw [extract_append_low _ _ (by decide)]
  exact extract_all xo

/-! The X form. -/

theorem formX_primary (xo : BitVec 10) : fieldPrimary (formX d a b xo) = 31 := by
  unfold fieldPrimary formX
  rw [extract_append_high _ _ (by decide), extract_append_high _ _ (by decide), extract_append_high _ _ (by decide),
    extract_append_high _ _ (by decide), extract_append_high _ _ (by decide)]
  rfl

theorem formX_D (xo : BitVec 10) : fieldD (formX d a b xo) = d := by
  unfold fieldD formX
  rw [extract_append_high _ _ (by decide), extract_append_high _ _ (by decide), extract_append_high _ _ (by decide),
    extract_append_high _ _ (by decide), extract_append_low _ _ (by decide)]
  exact extract_all d

theorem formX_A (xo : BitVec 10) : fieldA (formX d a b xo) = a := by
  unfold fieldA formX
  rw [extract_append_high _ _ (by decide), extract_append_high _ _ (by decide), extract_append_high _ _ (by decide),
    extract_append_low _ _ (by decide)]
  exact extract_all a

theorem formX_B (xo : BitVec 10) : fieldB (formX d a b xo) = b := by
  unfold fieldB formX
  rw [extract_append_high _ _ (by decide), extract_append_high _ _ (by decide), extract_append_low _ _ (by decide)]
  exact extract_all b

theorem formX_xo (xo : BitVec 10) : fieldXoX (formX d a b xo) = xo := by
  unfold fieldXoX formX
  rw [extract_append_high _ _ (by decide), extract_append_low _ _ (by decide)]
  exact extract_all xo

end

theorem formStream_primary (flag : Bool) (strm : BitVec 2) (a b : BitVec 5) (xo : BitVec 10) :
    fieldPrimary (formStream flag strm a b xo) = 31 := by
  unfold fieldPrimary formStream
  rw [extract_append_high _ _ (by decide), extract_append_high _ _ (by decide), extract_append_high _ _ (by decide),
    extract_append_high _ _ (by decide), extract_append_high _ _ (by decide), extract_append_high _ _ (by decide),
    extract_append_high _ _ (by decide)]
  rfl

end Sys2Proof
end

