-- ==== Sys2Proof/Laws/Fetch.lean ====
section
/-! SUPPORT. When a fetch answers an instruction, and what it answers otherwise. -/

namespace Sys2Proof.Machine

theorem fetchesStored_iff (s : State) : s.fetchesStored = true ↔ ∃ j, j < 4 ∧ s.pc.toNat + j ∈ s.stored := by
  simp [State.fetchesStored]

theorem pcAligned_iff (s : State) : s.pcAligned = true ↔ s.pc.toNat % 4 = 0 := by simp [State.pcAligned]

/-- A fetch answers an instruction exactly where `pc` is aligned, its bytes are in `MemDomain` and not stored by the run,
and the word decodes to it. -/
theorem fetch_eq_ok (s : State) (i : Instr) :
    s.fetch = .ok i ↔ s.pcAligned = true ∧ s.accessible s.pc.toNat 4 = true ∧ s.fetchesStored = false ∧
      decode s.fetchWord = .ok i := by
  unfold State.fetch
  cases s.pcAligned <;> cases s.accessible s.pc.toNat 4 <;> cases s.fetchesStored <;> simp
  cases decode s.fetchWord <;> simp

/-- A fetch answers no next state of its own. -/
theorem fetch_error_ne_next (s t : State) : s.fetch ≠ .error (.next t) := by
  unfold State.fetch raise
  cases s.pcAligned <;> cases s.accessible s.pc.toNat 4 <;> cases s.fetchesStored <;> simp
  cases decode s.fetchWord <;> simp

end Sys2Proof.Machine
end

