-- ==== Sys2Proof/Laws/Flags.lean ====
section
/-! SUPPORT. What saturation and the summary of a recording compare deliver. -/

namespace Sys2Proof.Machine

theorem signedMax_eq (n : Nat) : signedMax n = 2 ^ (n - 1) - 1 := by simp [signedMax]

theorem signedMin_eq (n : Nat) : signedMin n = -(2 ^ (n - 1)) := by simp [signedMin]

theorem unsignedMax_eq (n : Nat) : unsignedMax n = 2 ^ n - 1 := by simp [unsignedMax]

/-- An integer in the signed range is its own truncation. -/
theorem trunc_toInt {n : Nat} (hn : 0 < n) {z : Int} (h₁ : -(2 ^ (n - 1)) ≤ z) (h₂ : z < 2 ^ (n - 1)) :
    (trunc n z).toInt = z := by
  obtain ⟨m, rfl⟩ : ∃ m, n = m + 1 := ⟨n - 1, by omega⟩
  simp only [trunc, BitVec.toInt_ofInt]
  simp only [Nat.add_sub_cancel] at h₁ h₂
  apply Int.bmod_eq_of_le <;> · rw [pow_succ]; push_cast; omega

/-- `satS` clamps into the signed range and flags exactly the values it changes. -/
theorem satS_spec {n : Nat} (hn : 0 < n) (z : Int) :
    (satS n z).1.toInt = clampSigned n z ∧ ((satS n z).2 = true ↔ clampSigned n z ≠ z) := by
  have hp : (0 : Int) < 2 ^ (n - 1) := by positivity
  unfold satS clampSigned
  rw [signedMax_eq, signedMin_eq]
  split
  · rw [trunc_toInt hn (by omega) (by omega)]; constructor <;> (try simp) <;> omega
  · split
    · rw [trunc_toInt hn (by omega) (by omega)]; constructor <;> (try simp) <;> omega
    · rw [trunc_toInt hn (by omega) (by omega)]; constructor <;> (try simp) <;> omega

/-- `satU` clamps into the unsigned range and flags exactly the values it changes. -/
theorem satU_spec (n : Nat) (z : Int) :
    ((satU n z).1.toNat : Int) = clampUnsigned n z ∧ ((satU n z).2 = true ↔ clampUnsigned n z ≠ z) := by
  have hp : (0 : Int) < 2 ^ n := by positivity
  unfold satU clampUnsigned
  rw [unsignedMax_eq]
  split
  · have h1 : (1 : Nat) ≤ 2 ^ n := Nat.one_le_two_pow
    rw [BitVec.toNat_allOnes]; push_cast [h1]
    constructor <;> (try simp) <;> omega
  · split
    · constructor <;> (try simp) <;> omega
    · have : ((trunc n z).toNat : Int) = z := by
        rw [trunc, BitVec.toNat_ofInt]; push_cast
        rw [Int.toNat_of_nonneg (Int.emod_nonneg _ (by omega)), Int.emod_eq_of_lt (by omega) (by omega)]
      rw [this]; constructor <;> (try simp) <;> omega

end Sys2Proof.Machine
end

