-- ==== Sys2Proof/Laws/Fp.lean ====
section
/-! SUPPORT. What rounding to an integer, the flush, the NaN choice and the choice of an estimate deliver. -/

namespace Sys2Proof.Machine

/-- `nearestEven` is within one half of the quotient, and even where it is exactly one half away. -/
theorem nearestEven_spec (m : Nat) {d : Nat} (hd : 0 < d) :
    2 * m ≤ 2 * (nearestEven m d * d) + d ∧ 2 * (nearestEven m d * d) ≤ 2 * m + d ∧
      (2 * m = 2 * (nearestEven m d * d) + d ∨ 2 * (nearestEven m d * d) = 2 * m + d → nearestEven m d % 2 = 0) := by
  have hm := Nat.div_add_mod m d
  have hr := Nat.mod_lt m hd
  unfold nearestEven
  rw [mul_comm d (m / d)] at hm
  generalize m % d = r at *
  generalize m / d = q at *
  split
  · omega
  · split
    · rw [add_mul, one_mul]; generalize q * d = x at *; omega
    · rcases Nat.mod_two_eq_zero_or_one q with h | h
      · rw [h, Nat.add_zero]; generalize q * d = x at *; omega
      · rw [h, add_mul, one_mul]; generalize q * d = x at *; omega

/-- An exact quotient is not changed. -/
theorem nearestEven_exact (q : Nat) {d : Nat} (hd : 0 < d) : nearestEven (q * d) d = q := by
  simp [nearestEven, hd]

/-- Bit `i` of the sign mask. -/
theorem signMask_getLsbD {i : Nat} (hi : i < 32) : (0x80000000#32).getLsbD i = decide (i = 31) := by
  interval_cases i <;> rfl

/-- The sign bit alone is the zero of that sign. -/
theorem and_signMask (w : Word) : w &&& 0x80000000#32 = zeroOf (fpSign w) := by
  apply BitVec.eq_of_getLsbD_eq
  intro i hi
  rw [BitVec.getLsbD_and, signMask_getLsbD hi]
  unfold zeroOf fpSign
  by_cases h31 : i = 31
  · subst h31
    cases h : w.getLsbD 31
    · rfl
    · rfl
  · cases w.getLsbD 31
    · simp [h31]
    · simp only [if_true, h31, decide_false, Bool.and_false]
      exact (Eq.trans (signMask_getLsbD hi) (decide_eq_false h31)).symm

/-- A zero is the zero of its sign. -/
theorem zero_eq_signMask {w : Word} (he : fpExp w = 0) (hf : fpFrac w = 0) : w = w &&& 0x80000000#32 := by
  have hw : w.extractLsb' 23 8 = 0 := BitVec.eq_of_toNat_eq (by simpa [fpExp] using he)
  have hw2 : w.extractLsb' 0 23 = 0 := BitVec.eq_of_toNat_eq (by simpa [fpFrac] using hf)
  apply BitVec.eq_of_getLsbD_eq
  intro i hi
  rw [BitVec.getLsbD_and, signMask_getLsbD hi]
  by_cases h31 : i = 31
  · simp [h31]
  · have hi0 : w.getLsbD i = false := by
      by_cases h23 : i < 23
      · have h := congrArg (fun v => v.getLsbD i) hw2
        simpa [BitVec.getLsbD_extractLsb', h23] using h
      · have h := congrArg (fun v => v.getLsbD (i - 23)) hw
        have e : 23 + (i - 23) = i := by omega
        have l : i - 23 < 8 := by omega
        simpa [BitVec.getLsbD_extractLsb', e, l] using h
    rw [hi0, Bool.false_and]

/-- The model's flush is the flush of the statements. -/
theorem flushNJ_eq_njWord (s : State) (w : Word) : s.flushNJ w = njWord s w := by
  unfold State.flushNJ njWord isDenorm
  rw [show (0x80000000 : Word) = 0x80000000#32 from rfl, ← and_signMask]
  by_cases hf : fpFrac w = 0
  · by_cases he : fpExp w = 0
    · rw [if_neg (by simp [hf])]
      split
      · exact zero_eq_signMask he hf
      · rfl
    · simp [he]
  · by_cases hn : s.nj = true <;> by_cases he : fpExp w = 0 <;> simp [hn, he, hf]

/-- A word with its quiet bit set keeps it. -/
theorem quiet_bit (w : Word) : (w ||| 0x00400000).getLsbD 22 = true := by simp

/-- The free estimate stands only where the page allows it. -/
theorem chosenEstimate_spec (allowed : Word → Bool) (free made : Word) :
    chosenEstimate allowed free made = made ∨ allowed (chosenEstimate allowed free made) = true := by
  unfold chosenEstimate
  split
  · exact .inr ‹_›
  · exact .inl rfl

end Sys2Proof.Machine
end

