-- ==== Sys2Proof/Laws/Memory.lean ====
section
/-! SUPPORT. What the memory operations read back, and that they keep the canonical form. -/

namespace Sys2Proof.Machine

/-! Reading after a change of one byte. -/

theorem Memory.read_erase_same (m : Memory) (a : Nat) : (Memory.erase m a).read a = Memory.unlisted := by
  induction m with
  | nil => rfl
  | cons p t ih =>
    obtain ⟨c, x⟩ := p
    by_cases h : c = a <;> simp [Memory.erase, Memory.read, h, ih]

theorem Memory.read_erase_ne (m : Memory) {a b : Nat} (h : b ≠ a) : (Memory.erase m a).read b = Memory.read m b := by
  induction m with
  | nil => rfl
  | cons p t ih =>
    obtain ⟨c, x⟩ := p
    by_cases hc : c = a
    · subst hc; simp [Memory.erase, Memory.read, ih, Ne.symm h]
    · simp [Memory.erase, Memory.read, hc, ih]

theorem Memory.read_insert_same (m : Memory) (a : Nat) (v : Byte) (h : ∀ p ∈ m, p.1 ≠ a) :
    (Memory.insert m a v).read a = v := by
  induction m with
  | nil => simp [Memory.insert, Memory.read]
  | cons p t ih =>
    obtain ⟨c, x⟩ := p
    have hc : c ≠ a := h (c, x) (by simp)
    have ht : ∀ p ∈ t, p.1 ≠ a := fun q hq => h q (by simp [hq])
    by_cases hl : a < c <;> simp [Memory.insert, Memory.read, hl, hc, ih ht]

theorem Memory.read_insert_ne (m : Memory) {a b : Nat} (v : Byte) (h : b ≠ a) :
    (Memory.insert m a v).read b = Memory.read m b := by
  induction m with
  | nil => simp [Memory.insert, Memory.read, Ne.symm h]
  | cons p t ih =>
    obtain ⟨c, x⟩ := p
    by_cases hl : a < c <;> simp [Memory.insert, Memory.read, hl, ih, Ne.symm h]

theorem Memory.not_mem_erase (m : Memory) (a : Nat) : ∀ p ∈ Memory.erase m a, p.1 ≠ a := by
  induction m with
  | nil => simp [Memory.erase]
  | cons q t ih =>
    obtain ⟨c, x⟩ := q
    by_cases h : c = a
    · simpa [Memory.erase, h] using ih
    · simpa [Memory.erase, h] using ih

/-- A byte reads back what was written to it; every other byte reads as before (R52, R58). -/
theorem Memory.read_write (m : Memory) (a b : Nat) (v : Byte) :
    (Memory.write m a v).read b = if b = a then v else Memory.read m b := by
  unfold Memory.write
  by_cases hb : b = a
  · subst hb
    by_cases hv : v = Memory.unlisted
    · simp [hv, Memory.read_erase_same]
    · simp [hv, Memory.read_insert_same _ _ _ (Memory.not_mem_erase m b)]
  · by_cases hv : v = Memory.unlisted
    · simp [hv, hb, Memory.read_erase_ne m hb]
    · simp [hv, hb, Memory.read_insert_ne _ v hb, Memory.read_erase_ne m hb]

/-- What a byte reads after consecutive bytes were written. -/
theorem Memory.read_writeBytes (m : Memory) (a b : Nat) (bs : List Byte) :
    (Memory.writeBytes m a bs).read b =
      if h : a ≤ b ∧ b < a + bs.length then bs[b - a]'(by omega) else Memory.read m b := by
  induction bs generalizing m a with
  | nil => simp [Memory.writeBytes]
  | cons v t ih =>
    rw [Memory.writeBytes, ih]
    by_cases h1 : a + 1 ≤ b ∧ b < a + 1 + t.length
    · have h2 : a ≤ b ∧ b < a + (v :: t).length := by simp; omega
      have e : b - a = (b - (a + 1)) + 1 := by omega
      rw [dif_pos h1, dif_pos h2]
      simp [e]
    · rw [dif_neg h1, Memory.read_write]
      by_cases h3 : b = a
      · subst h3; simp
      · have h2 : ¬ (a ≤ b ∧ b < a + (v :: t).length) := by simp; omega
        rw [dif_neg h2, if_neg h3]

/-! The canonical form. -/

/-- The canonical form, said of the head and the rest. -/
theorem Memory.wf_cons (a : Nat) (b : Byte) (t : Memory) :
    Memory.wf ((a, b) :: t) = true ↔
      a < 2 ^ 32 ∧ b ≠ Memory.unlisted ∧ (∀ p ∈ t, a < p.1) ∧ Memory.wf t = true := by
  induction t generalizing a b with
  | nil => simp [Memory.wf]
  | cons q u ih =>
    obtain ⟨c, x⟩ := q
    have hstep : Memory.wf ((a, b) :: (c, x) :: u) = true ↔
        a < c ∧ b ≠ Memory.unlisted ∧ Memory.wf ((c, x) :: u) = true := by
      simp [Memory.wf, and_assoc]
    rw [hstep, ih]
    constructor
    · rintro ⟨h1, h2, h3, h4, h5, h6⟩
      refine ⟨by omega, h2, ?_, h3, h4, h5, h6⟩
      intro p hp
      rcases List.mem_cons.1 hp with rfl | hp
      · exact h1
      · exact lt_trans h1 (h5 p hp)
    · rintro ⟨_, h2, h3, h4, h5, h6, h7⟩
      exact ⟨h3 (c, x) (by simp), h2, h4, h5, h6, h7⟩

theorem Memory.mem_erase {m : Memory} {a : Nat} {p : Host.Cell} (h : p ∈ Memory.erase m a) : p ∈ m := by
  induction m with
  | nil => simp [Memory.erase] at h
  | cons q t ih =>
    obtain ⟨c, x⟩ := q
    by_cases hc : c = a
    · rw [Memory.erase, if_pos hc] at h
      exact List.mem_cons_of_mem _ (ih h)
    · rw [Memory.erase, if_neg hc] at h
      rcases List.mem_cons.1 h with h | h
      · exact h ▸ List.mem_cons_self
      · exact List.mem_cons_of_mem _ (ih h)

theorem Memory.mem_insert {m : Memory} {a : Nat} {v : Byte} {p : Host.Cell} (h : p ∈ Memory.insert m a v) :
    p = (a, v) ∨ p ∈ m := by
  induction m with
  | nil => simpa [Memory.insert] using h
  | cons q t ih =>
    obtain ⟨c, x⟩ := q
    by_cases hl : a < c
    · rw [Memory.insert, if_pos hl] at h
      exact List.mem_cons.1 h
    · rw [Memory.insert, if_neg hl] at h
      rcases List.mem_cons.1 h with h | h
      · exact .inr (h ▸ List.mem_cons_self)
      · exact (ih h).imp id (List.mem_cons_of_mem _)

theorem Memory.wf_erase {m : Memory} (a : Nat) (h : Memory.wf m = true) : Memory.wf (Memory.erase m a) = true := by
  induction m with
  | nil => rfl
  | cons q t ih =>
    obtain ⟨c, x⟩ := q
    obtain ⟨h1, h2, h3, h4⟩ := (Memory.wf_cons c x t).1 h
    by_cases hc : c = a
    · rw [Memory.erase, if_pos hc]; exact ih h4
    · rw [Memory.erase, if_neg hc]
      exact (Memory.wf_cons _ _ _).2 ⟨h1, h2, fun p hp => h3 p (Memory.mem_erase hp), ih h4⟩

theorem Memory.wf_insert {m : Memory} {a : Nat} {v : Byte} (h : Memory.wf m = true) (ha : a < 2 ^ 32)
    (hv : v ≠ Memory.unlisted) (hm : ∀ p ∈ m, p.1 ≠ a) : Memory.wf (Memory.insert m a v) = true := by
  induction m with
  | nil => exact (Memory.wf_cons _ _ _).2 ⟨ha, hv, by simp, rfl⟩
  | cons q t ih =>
    obtain ⟨c, x⟩ := q
    obtain ⟨h1, h2, h3, h4⟩ := (Memory.wf_cons c x t).1 h
    have hc : c ≠ a := hm (c, x) (by simp)
    by_cases hl : a < c
    · rw [Memory.insert, if_pos hl]
      refine (Memory.wf_cons _ _ _).2 ⟨ha, hv, ?_, h⟩
      intro p hp
      rcases List.mem_cons.1 hp with rfl | hp
      · exact hl
      · exact lt_trans hl (h3 p hp)
    · rw [Memory.insert, if_neg hl]
      refine (Memory.wf_cons _ _ _).2 ⟨h1, h2, ?_, ih h4 fun p hp => hm p (by simp [hp])⟩
      intro p hp
      rcases Memory.mem_insert hp with rfl | hp
      · exact lt_of_le_of_ne (Nat.le_of_not_lt hl) hc
      · exact h3 p hp

/-- A write keeps the canonical form. -/
theorem Memory.wf_write {m : Memory} {a : Nat} (v : Byte) (h : Memory.wf m = true) (ha : a < 2 ^ 32) :
    Memory.wf (Memory.write m a v) = true := by
  unfold Memory.write
  split
  · exact Memory.wf_erase a h
  · exact Memory.wf_insert (Memory.wf_erase a h) ha ‹_› (Memory.not_mem_erase m a)

/-- Consecutive writes keep the canonical form. -/
theorem Memory.wf_writeBytes {m : Memory} {a : Nat} (bs : List Byte) (h : Memory.wf m = true)
    (ha : a + bs.length ≤ 2 ^ 32) : Memory.wf (Memory.writeBytes m a bs) = true := by
  induction bs generalizing m a with
  | nil => exact h
  | cons v t ih =>
    simp only [List.length_cons] at ha
    exact ih (Memory.wf_write v h (by omega)) (by omega)

theorem bytesOfValue_length {w : Nat} (n : Nat) (v : BitVec w) : (bytesOfValue n v).length = n := by
  simp [bytesOfValue]

theorem storedBytes_length {w : Nat} (s : State) (n : Nat) (v : BitVec w) : (s.storedBytes n v).length = n := by
  unfold State.storedBytes inMemoryOrder
  split <;> simp [bytesOfValue_length]

/-- An element or doubleword store keeps the canonical form. -/
theorem State.memWrite_wf {w : Nat} {s : State} {a n : Nat} (v : BitVec w) (h : s.mem.wf = true)
    (ha : a + n ≤ 2 ^ 32) : (s.memWrite a n v).mem.wf = true :=
  Memory.wf_writeBytes _ h (by rw [storedBytes_length]; exact ha)

/-- A quadword store keeps the canonical form. -/
theorem State.memWriteQuad_wf {s : State} {a : Nat} (v : Vec) (h : s.mem.wf = true) (ha : a + 16 ≤ 2 ^ 32) :
    (s.memWriteQuad a v).mem.wf = true := by
  unfold State.memWriteQuad
  split
  · exact State.memWrite_wf _ (State.memWrite_wf _ h (by omega)) (by omega)
  · exact State.memWrite_wf _ h ha

theorem State.reset_mem_wf : State.reset.mem.wf = true := rfl

/-! Bytes outside a store. -/

theorem State.readByte_memWrite_outside {w : Nat} (s : State) {a n b : Nat} (v : BitVec w)
    (h : b < a ∨ a + n ≤ b) : (s.memWrite a n v).readByte b = s.readByte b := by
  unfold State.readByte State.memWrite
  simp only [Memory.read_writeBytes]
  rw [dif_neg]
  rw [storedBytes_length]; omega

theorem State.readByte_memWriteQuad_outside (s : State) {a b : Nat} (v : Vec) (h : b < a ∨ a + 16 ≤ b) :
    (s.memWriteQuad a v).readByte b = s.readByte b := by
  unfold State.memWriteQuad
  split
  · rw [State.readByte_memWrite_outside _ _ (by omega), State.readByte_memWrite_outside _ _ (by omega)]
  · exact State.readByte_memWrite_outside _ _ (by omega)

/-! The stored addresses (R61). -/

theorem mem_addAddress (l : List Nat) (a b : Nat) : b ∈ addAddress l a ↔ b = a ∨ b ∈ l := by
  induction l with
  | nil => simp [addAddress]
  | cons c t ih =>
    unfold addAddress
    split
    · simp
    · split
      · rename_i h; subst h; simp
      · simp [ih]; tauto

theorem mem_addAddresses (l : List Nat) (a n b : Nat) :
    b ∈ addAddresses l a n ↔ (a ≤ b ∧ b < a + n) ∨ b ∈ l := by
  induction n generalizing l a with
  | zero => simp [addAddresses]
  | succ n ih =>
    rw [addAddresses, ih, mem_addAddress]
    constructor
    · rintro (h | h | h)
      · exact .inl (by omega)
      · exact .inl (by omega)
      · exact .inr h
    · rintro (h | h)
      · by_cases e : b = a
        · exact .inr (.inl e)
        · exact .inl (by omega)
      · exact .inr (.inr h)

theorem addAddress_sorted {l : List Nat} (a : Nat) (h : l.Pairwise (· < ·)) :
    (addAddress l a).Pairwise (· < ·) := by
  induction l with
  | nil => simp [addAddress]
  | cons c t ih =>
    obtain ⟨hc, ht⟩ := List.pairwise_cons.1 h
    unfold addAddress
    split
    · rename_i hl
      refine List.pairwise_cons.2 ⟨?_, h⟩
      intro x hx
      rcases List.mem_cons.1 hx with rfl | hx
      · exact hl
      · exact lt_trans hl (hc x hx)
    · split
      · exact h
      · rename_i h1 h2
        refine List.pairwise_cons.2 ⟨?_, ih ht⟩
        intro x hx
        rcases (mem_addAddress t a x).1 hx with rfl | hx
        · omega
        · exact hc x hx

theorem addAddresses_sorted {l : List Nat} (a n : Nat) (h : l.Pairwise (· < ·)) :
    (addAddresses l a n).Pairwise (· < ·) := by
  induction n generalizing l a with
  | zero => exact h
  | succ n ih => exact ih (a + 1) (addAddress_sorted a h)

end Sys2Proof.Machine
end

