-- ==== Sys2Proof/Laws/State.lean ====
section
/-! SUPPORT. One lemma per field per update of the state, and what the register operations read after an update. -/

namespace Sys2Proof.Machine

/-! `setVr`. -/

@[simp] theorem State.setVr_gpr (s : State) (r : VReg) (v : Vec) :
    (s.setVr r v).gpr = s.gpr := rfl

@[simp] theorem State.setVr_vr (s : State) (r : VReg) (v : Vec) :
    (s.setVr r v).vr = s.vr.set r.toNat v r.isLt := rfl

@[simp] theorem State.setVr_pc (s : State) (r : VReg) (v : Vec) :
    (s.setVr r v).pc = s.pc := rfl

@[simp] theorem State.setVr_cr (s : State) (r : VReg) (v : Vec) :
    (s.setVr r v).cr = s.cr := rfl

@[simp] theorem State.setVr_nj (s : State) (r : VReg) (v : Vec) :
    (s.setVr r v).nj = s.nj := rfl

@[simp] theorem State.setVr_sat (s : State) (r : VReg) (v : Vec) :
    (s.setVr r v).sat = s.sat := rfl

@[simp] theorem State.setVr_mem (s : State) (r : VReg) (v : Vec) :
    (s.setVr r v).mem = s.mem := rfl

@[simp] theorem State.setVr_stream (s : State) (r : VReg) (v : Vec) :
    (s.setVr r v).stream = s.stream := rfl

@[simp] theorem State.setVr_le (s : State) (r : VReg) (v : Vec) :
    (s.setVr r v).le = s.le := rfl

@[simp] theorem State.setVr_vecAvailable (s : State) (r : VReg) (v : Vec) :
    (s.setVr r v).vecAvailable = s.vecAvailable := rfl

@[simp] theorem State.setVr_domain (s : State) (r : VReg) (v : Vec) :
    (s.setVr r v).domain = s.domain := rfl

@[simp] theorem State.setVr_nanRule (s : State) (r : VReg) (v : Vec) :
    (s.setVr r v).nanRule = s.nanRule := rfl

@[simp] theorem State.setVr_fresh (s : State) (r : VReg) (v : Vec) :
    (s.setVr r v).fresh = s.fresh := rfl

@[simp] theorem State.setVr_stored (s : State) (r : VReg) (v : Vec) :
    (s.setVr r v).stored = s.stored := rfl

/-! `setVscr`. -/

@[simp] theorem State.setVscr_gpr (s : State) (w : Word) :
    (s.setVscr w).gpr = s.gpr := rfl

@[simp] theorem State.setVscr_vr (s : State) (w : Word) :
    (s.setVscr w).vr = s.vr := rfl

@[simp] theorem State.setVscr_pc (s : State) (w : Word) :
    (s.setVscr w).pc = s.pc := rfl

@[simp] theorem State.setVscr_cr (s : State) (w : Word) :
    (s.setVscr w).cr = s.cr := rfl

@[simp] theorem State.setVscr_nj (s : State) (w : Word) :
    (s.setVscr w).nj = w.getLsbD 16 := rfl

@[simp] theorem State.setVscr_sat (s : State) (w : Word) :
    (s.setVscr w).sat = w.getLsbD 0 := rfl

@[simp] theorem State.setVscr_mem (s : State) (w : Word) :
    (s.setVscr w).mem = s.mem := rfl

@[simp] theorem State.setVscr_stream (s : State) (w : Word) :
    (s.setVscr w).stream = s.stream := rfl

@[simp] theorem State.setVscr_le (s : State) (w : Word) :
    (s.setVscr w).le = s.le := rfl

@[simp] theorem State.setVscr_vecAvailable (s : State) (w : Word) :
    (s.setVscr w).vecAvailable = s.vecAvailable := rfl

@[simp] theorem State.setVscr_domain (s : State) (w : Word) :
    (s.setVscr w).domain = s.domain := rfl

@[simp] theorem State.setVscr_nanRule (s : State) (w : Word) :
    (s.setVscr w).nanRule = s.nanRule := rfl

@[simp] theorem State.setVscr_fresh (s : State) (w : Word) :
    (s.setVscr w).fresh = s.fresh := rfl

@[simp] theorem State.setVscr_stored (s : State) (w : Word) :
    (s.setVscr w).stored = s.stored := rfl

/-! `orSat`. -/

@[simp] theorem State.orSat_gpr (s : State) (f : Bool) :
    (s.orSat f).gpr = s.gpr := rfl

@[simp] theorem State.orSat_vr (s : State) (f : Bool) :
    (s.orSat f).vr = s.vr := rfl

@[simp] theorem State.orSat_pc (s : State) (f : Bool) :
    (s.orSat f).pc = s.pc := rfl

@[simp] theorem State.orSat_cr (s : State) (f : Bool) :
    (s.orSat f).cr = s.cr := rfl

@[simp] theorem State.orSat_nj (s : State) (f : Bool) :
    (s.orSat f).nj = s.nj := rfl

@[simp] theorem State.orSat_sat (s : State) (f : Bool) :
    (s.orSat f).sat = (s.sat || f) := rfl

@[simp] theorem State.orSat_mem (s : State) (f : Bool) :
    (s.orSat f).mem = s.mem := rfl

@[simp] theorem State.orSat_stream (s : State) (f : Bool) :
    (s.orSat f).stream = s.stream := rfl

@[simp] theorem State.orSat_le (s : State) (f : Bool) :
    (s.orSat f).le = s.le := rfl

@[simp] theorem State.orSat_vecAvailable (s : State) (f : Bool) :
    (s.orSat f).vecAvailable = s.vecAvailable := rfl

@[simp] theorem State.orSat_domain (s : State) (f : Bool) :
    (s.orSat f).domain = s.domain := rfl

@[simp] theorem State.orSat_nanRule (s : State) (f : Bool) :
    (s.orSat f).nanRule = s.nanRule := rfl

@[simp] theorem State.orSat_fresh (s : State) (f : Bool) :
    (s.orSat f).fresh = s.fresh := rfl

@[simp] theorem State.orSat_stored (s : State) (f : Bool) :
    (s.orSat f).stored = s.stored := rfl

/-! `setCr6`. -/

@[simp] theorem State.setCr6_gpr (s : State) (f : BitVec 4) :
    (s.setCr6 f).gpr = s.gpr := rfl

@[simp] theorem State.setCr6_vr (s : State) (f : BitVec 4) :
    (s.setCr6 f).vr = s.vr := rfl

@[simp] theorem State.setCr6_pc (s : State) (f : BitVec 4) :
    (s.setCr6 f).pc = s.pc := rfl

@[simp] theorem State.setCr6_cr (s : State) (f : BitVec 4) :
    (s.setCr6 f).cr = s.cr.extractLsb' 8 24 ++ f ++ s.cr.extractLsb' 0 4 := rfl

@[simp] theorem State.setCr6_nj (s : State) (f : BitVec 4) :
    (s.setCr6 f).nj = s.nj := rfl

@[simp] theorem State.setCr6_sat (s : State) (f : BitVec 4) :
    (s.setCr6 f).sat = s.sat := rfl

@[simp] theorem State.setCr6_mem (s : State) (f : BitVec 4) :
    (s.setCr6 f).mem = s.mem := rfl

@[simp] theorem State.setCr6_stream (s : State) (f : BitVec 4) :
    (s.setCr6 f).stream = s.stream := rfl

@[simp] theorem State.setCr6_le (s : State) (f : BitVec 4) :
    (s.setCr6 f).le = s.le := rfl

@[simp] theorem State.setCr6_vecAvailable (s : State) (f : BitVec 4) :
    (s.setCr6 f).vecAvailable = s.vecAvailable := rfl

@[simp] theorem State.setCr6_domain (s : State) (f : BitVec 4) :
    (s.setCr6 f).domain = s.domain := rfl

@[simp] theorem State.setCr6_nanRule (s : State) (f : BitVec 4) :
    (s.setCr6 f).nanRule = s.nanRule := rfl

@[simp] theorem State.setCr6_fresh (s : State) (f : BitVec 4) :
    (s.setCr6 f).fresh = s.fresh := rfl

@[simp] theorem State.setCr6_stored (s : State) (f : BitVec 4) :
    (s.setCr6 f).stored = s.stored := rfl

/-! `setStream`. -/

@[simp] theorem State.setStream_gpr (s : State) (k : BitVec 2) (d : Option StreamDescriptor) :
    (s.setStream k d).gpr = s.gpr := rfl

@[simp] theorem State.setStream_vr (s : State) (k : BitVec 2) (d : Option StreamDescriptor) :
    (s.setStream k d).vr = s.vr := rfl

@[simp] theorem State.setStream_pc (s : State) (k : BitVec 2) (d : Option StreamDescriptor) :
    (s.setStream k d).pc = s.pc := rfl

@[simp] theorem State.setStream_cr (s : State) (k : BitVec 2) (d : Option StreamDescriptor) :
    (s.setStream k d).cr = s.cr := rfl

@[simp] theorem State.setStream_nj (s : State) (k : BitVec 2) (d : Option StreamDescriptor) :
    (s.setStream k d).nj = s.nj := rfl

@[simp] theorem State.setStream_sat (s : State) (k : BitVec 2) (d : Option StreamDescriptor) :
    (s.setStream k d).sat = s.sat := rfl

@[simp] theorem State.setStream_mem (s : State) (k : BitVec 2) (d : Option StreamDescriptor) :
    (s.setStream k d).mem = s.mem := rfl

@[simp] theorem State.setStream_stream (s : State) (k : BitVec 2) (d : Option StreamDescriptor) :
    (s.setStream k d).stream = s.stream.set k.toNat d k.isLt := rfl

@[simp] theorem State.setStream_le (s : State) (k : BitVec 2) (d : Option StreamDescriptor) :
    (s.setStream k d).le = s.le := rfl

@[simp] theorem State.setStream_vecAvailable (s : State) (k : BitVec 2) (d : Option StreamDescriptor) :
    (s.setStream k d).vecAvailable = s.vecAvailable := rfl

@[simp] theorem State.setStream_domain (s : State) (k : BitVec 2) (d : Option StreamDescriptor) :
    (s.setStream k d).domain = s.domain := rfl

@[simp] theorem State.setStream_nanRule (s : State) (k : BitVec 2) (d : Option StreamDescriptor) :
    (s.setStream k d).nanRule = s.nanRule := rfl

@[simp] theorem State.setStream_fresh (s : State) (k : BitVec 2) (d : Option StreamDescriptor) :
    (s.setStream k d).fresh = s.fresh := rfl

@[simp] theorem State.setStream_stored (s : State) (k : BitVec 2) (d : Option StreamDescriptor) :
    (s.setStream k d).stored = s.stored := rfl

/-! `clearStreams`. -/

@[simp] theorem State.clearStreams_gpr (s : State) :
    (s.clearStreams).gpr = s.gpr := rfl

@[simp] theorem State.clearStreams_vr (s : State) :
    (s.clearStreams).vr = s.vr := rfl

@[simp] theorem State.clearStreams_pc (s : State) :
    (s.clearStreams).pc = s.pc := rfl

@[simp] theorem State.clearStreams_cr (s : State) :
    (s.clearStreams).cr = s.cr := rfl

@[simp] theorem State.clearStreams_nj (s : State) :
    (s.clearStreams).nj = s.nj := rfl

@[simp] theorem State.clearStreams_sat (s : State) :
    (s.clearStreams).sat = s.sat := rfl

@[simp] theorem State.clearStreams_mem (s : State) :
    (s.clearStreams).mem = s.mem := rfl

@[simp] theorem State.clearStreams_stream (s : State) :
    (s.clearStreams).stream = Vector.replicate 4 none := rfl

@[simp] theorem State.clearStreams_le (s : State) :
    (s.clearStreams).le = s.le := rfl

@[simp] theorem State.clearStreams_vecAvailable (s : State) :
    (s.clearStreams).vecAvailable = s.vecAvailable := rfl

@[simp] theorem State.clearStreams_domain (s : State) :
    (s.clearStreams).domain = s.domain := rfl

@[simp] theorem State.clearStreams_nanRule (s : State) :
    (s.clearStreams).nanRule = s.nanRule := rfl

@[simp] theorem State.clearStreams_fresh (s : State) :
    (s.clearStreams).fresh = s.fresh := rfl

@[simp] theorem State.clearStreams_stored (s : State) :
    (s.clearStreams).stored = s.stored := rfl

/-! `draw`. -/

@[simp] theorem State.draw_gpr (s : State) :
    (s.draw).gpr = s.gpr := rfl

@[simp] theorem State.draw_vr (s : State) :
    (s.draw).vr = s.vr := rfl

@[simp] theorem State.draw_pc (s : State) :
    (s.draw).pc = s.pc := rfl

@[simp] theorem State.draw_cr (s : State) :
    (s.draw).cr = s.cr := rfl

@[simp] theorem State.draw_nj (s : State) :
    (s.draw).nj = s.nj := rfl

@[simp] theorem State.draw_sat (s : State) :
    (s.draw).sat = s.sat := rfl

@[simp] theorem State.draw_mem (s : State) :
    (s.draw).mem = s.mem := rfl

@[simp] theorem State.draw_stream (s : State) :
    (s.draw).stream = s.stream := rfl

@[simp] theorem State.draw_le (s : State) :
    (s.draw).le = s.le := rfl

@[simp] theorem State.draw_vecAvailable (s : State) :
    (s.draw).vecAvailable = s.vecAvailable := rfl

@[simp] theorem State.draw_domain (s : State) :
    (s.draw).domain = s.domain := rfl

@[simp] theorem State.draw_nanRule (s : State) :
    (s.draw).nanRule = s.nanRule := rfl

@[simp] theorem State.draw_fresh (s : State) :
    (s.draw).fresh = s.fresh + 1 := rfl

@[simp] theorem State.draw_stored (s : State) :
    (s.draw).stored = s.stored := rfl

/-! `advance`. -/

@[simp] theorem State.advance_gpr (s : State) :
    (s.advance).gpr = s.gpr := rfl

@[simp] theorem State.advance_vr (s : State) :
    (s.advance).vr = s.vr := rfl

@[simp] theorem State.advance_pc (s : State) :
    (s.advance).pc = s.pc + 4 := rfl

@[simp] theorem State.advance_cr (s : State) :
    (s.advance).cr = s.cr := rfl

@[simp] theorem State.advance_nj (s : State) :
    (s.advance).nj = s.nj := rfl

@[simp] theorem State.advance_sat (s : State) :
    (s.advance).sat = s.sat := rfl

@[simp] theorem State.advance_mem (s : State) :
    (s.advance).mem = s.mem := rfl

@[simp] theorem State.advance_stream (s : State) :
    (s.advance).stream = s.stream := rfl

@[simp] theorem State.advance_le (s : State) :
    (s.advance).le = s.le := rfl

@[simp] theorem State.advance_vecAvailable (s : State) :
    (s.advance).vecAvailable = s.vecAvailable := rfl

@[simp] theorem State.advance_domain (s : State) :
    (s.advance).domain = s.domain := rfl

@[simp] theorem State.advance_nanRule (s : State) :
    (s.advance).nanRule = s.nanRule := rfl

@[simp] theorem State.advance_fresh (s : State) :
    (s.advance).fresh = s.fresh := rfl

@[simp] theorem State.advance_stored (s : State) :
    (s.advance).stored = s.stored := rfl

/-! `memWrite`. -/

@[simp] theorem State.memWrite_gpr (s : State) {w : Nat} (a n : Nat) (v : BitVec w) :
    (s.memWrite a n v).gpr = s.gpr := rfl

@[simp] theorem State.memWrite_vr (s : State) {w : Nat} (a n : Nat) (v : BitVec w) :
    (s.memWrite a n v).vr = s.vr := rfl

@[simp] theorem State.memWrite_pc (s : State) {w : Nat} (a n : Nat) (v : BitVec w) :
    (s.memWrite a n v).pc = s.pc := rfl

@[simp] theorem State.memWrite_cr (s : State) {w : Nat} (a n : Nat) (v : BitVec w) :
    (s.memWrite a n v).cr = s.cr := rfl

@[simp] theorem State.memWrite_nj (s : State) {w : Nat} (a n : Nat) (v : BitVec w) :
    (s.memWrite a n v).nj = s.nj := rfl

@[simp] theorem State.memWrite_sat (s : State) {w : Nat} (a n : Nat) (v : BitVec w) :
    (s.memWrite a n v).sat = s.sat := rfl

@[simp] theorem State.memWrite_mem (s : State) {w : Nat} (a n : Nat) (v : BitVec w) :
    (s.memWrite a n v).mem = s.mem.writeBytes a (s.storedBytes n v) := rfl

@[simp] theorem State.memWrite_stream (s : State) {w : Nat} (a n : Nat) (v : BitVec w) :
    (s.memWrite a n v).stream = s.stream := rfl

@[simp] theorem State.memWrite_le (s : State) {w : Nat} (a n : Nat) (v : BitVec w) :
    (s.memWrite a n v).le = s.le := rfl

@[simp] theorem State.memWrite_vecAvailable (s : State) {w : Nat} (a n : Nat) (v : BitVec w) :
    (s.memWrite a n v).vecAvailable = s.vecAvailable := rfl

@[simp] theorem State.memWrite_domain (s : State) {w : Nat} (a n : Nat) (v : BitVec w) :
    (s.memWrite a n v).domain = s.domain := rfl

@[simp] theorem State.memWrite_nanRule (s : State) {w : Nat} (a n : Nat) (v : BitVec w) :
    (s.memWrite a n v).nanRule = s.nanRule := rfl

@[simp] theorem State.memWrite_fresh (s : State) {w : Nat} (a n : Nat) (v : BitVec w) :
    (s.memWrite a n v).fresh = s.fresh := rfl

@[simp] theorem State.memWrite_stored (s : State) {w : Nat} (a n : Nat) (v : BitVec w) :
    (s.memWrite a n v).stored = addAddresses s.stored a n := rfl

/-! `memWriteQuad`. -/

@[simp] theorem State.memWriteQuad_gpr (s : State) (a : Nat) (v : Vec) :
    (s.memWriteQuad a v).gpr = s.gpr := by unfold State.memWriteQuad; split <;> rfl

@[simp] theorem State.memWriteQuad_vr (s : State) (a : Nat) (v : Vec) :
    (s.memWriteQuad a v).vr = s.vr := by unfold State.memWriteQuad; split <;> rfl

@[simp] theorem State.memWriteQuad_pc (s : State) (a : Nat) (v : Vec) :
    (s.memWriteQuad a v).pc = s.pc := by unfold State.memWriteQuad; split <;> rfl

@[simp] theorem State.memWriteQuad_cr (s : State) (a : Nat) (v : Vec) :
    (s.memWriteQuad a v).cr = s.cr := by unfold State.memWriteQuad; split <;> rfl

@[simp] theorem State.memWriteQuad_nj (s : State) (a : Nat) (v : Vec) :
    (s.memWriteQuad a v).nj = s.nj := by unfold State.memWriteQuad; split <;> rfl

@[simp] theorem State.memWriteQuad_sat (s : State) (a : Nat) (v : Vec) :
    (s.memWriteQuad a v).sat = s.sat := by unfold State.memWriteQuad; split <;> rfl

@[simp] theorem State.memWriteQuad_stream (s : State) (a : Nat) (v : Vec) :
    (s.memWriteQuad a v).stream = s.stream := by unfold State.memWriteQuad; split <;> rfl

@[simp] theorem State.memWriteQuad_le (s : State) (a : Nat) (v : Vec) :
    (s.memWriteQuad a v).le = s.le := by unfold State.memWriteQuad; split <;> rfl

@[simp] theorem State.memWriteQuad_vecAvailable (s : State) (a : Nat) (v : Vec) :
    (s.memWriteQuad a v).vecAvailable = s.vecAvailable := by unfold State.memWriteQuad; split <;> rfl

@[simp] theorem State.memWriteQuad_domain (s : State) (a : Nat) (v : Vec) :
    (s.memWriteQuad a v).domain = s.domain := by unfold State.memWriteQuad; split <;> rfl

@[simp] theorem State.memWriteQuad_nanRule (s : State) (a : Nat) (v : Vec) :
    (s.memWriteQuad a v).nanRule = s.nanRule := by unfold State.memWriteQuad; split <;> rfl

@[simp] theorem State.memWriteQuad_fresh (s : State) (a : Nat) (v : Vec) :
    (s.memWriteQuad a v).fresh = s.fresh := by unfold State.memWriteQuad; split <;> rfl

/-! Registers after an update. -/

theorem State.getVr_setVr_same (s : State) (r : VReg) (v : Vec) : (s.setVr r v).getVr r = v := by
  simp [State.getVr]

theorem State.getVr_setVr_ne (s : State) (r q : VReg) (v : Vec) (h : q ≠ r) :
    (s.setVr r v).getVr q = s.getVr q := by
  have hn : r.toNat ≠ q.toNat := fun e => h (BitVec.eq_of_toNat_eq e.symm)
  simp [State.getVr, hn]

theorem State.getStream_setStream_same (s : State) (k : BitVec 2) (d : Option StreamDescriptor) :
    (s.setStream k d).getStream k = d := by
  simp [State.getStream]

theorem State.getStream_setStream_ne (s : State) (k j : BitVec 2) (d : Option StreamDescriptor) (h : j ≠ k) :
    (s.setStream k d).getStream j = s.getStream j := by
  have hn : k.toNat ≠ j.toNat := fun e => h (BitVec.eq_of_toNat_eq e.symm)
  simp [State.getStream, hn]

/-- A register read depends on the register file alone. -/
theorem State.getVr_congr {s t : State} (h : t.vr = s.vr) (r : VReg) : t.getVr r = s.getVr r := by
  simp [State.getVr, h]

/-- A register read depends on the register file alone. -/
theorem State.getGpr_congr {s t : State} (h : t.gpr = s.gpr) (r : GReg) : t.getGpr r = s.getGpr r := by
  simp [State.getGpr, h]

/-- A stream depends on the streams alone. -/
theorem State.getStream_congr {s t : State} (h : t.stream = s.stream) (k : BitVec 2) :
    t.getStream k = s.getStream k := by
  simp [State.getStream, h]

/-- A byte read depends on memory alone. -/
theorem State.readByte_congr {s t : State} (h : t.mem = s.mem) (a : Nat) : t.readByte a = s.readByte a := by
  simp [State.readByte, h]

/-- CR6 reads back what was written into it (R23). -/
theorem State.cr6_setCr6 (s : State) (f : BitVec 4) : (s.setCr6 f).cr6 = f := by
  apply BitVec.eq_of_getLsbD_eq
  intro i hi
  simp only [State.cr6, State.setCr6_cr, BitVec.getLsbD_extractLsb', BitVec.getLsbD_append]
  have h4 : ¬ (4 + i < 4) := by omega
  have e : 4 + i - 4 = i := by omega
  simp [hi, e]

/-- The VSCR word reads back the two bits that were written into it (R25). -/
theorem State.vscr_setVscr (s : State) (w : Word) :
    (s.setVscr w).vscr = 0#15 ++ BitVec.ofBool (w.getLsbD 16) ++ 0#15 ++ BitVec.ofBool (w.getLsbD 0) := rfl

end Sys2Proof.Machine
end

