-- ==== Sys2Proof/Laws/Ops.lean ====
section
/-! SUPPORT. For each way an instruction ends, all that it can do. -/

namespace Sys2Proof.Machine

theorem whenAvailable_available {s : State} (h : s.vecAvailable = true) (r : Result) : whenAvailable s r = r := by
  simp [whenAvailable, h]

theorem whenAvailable_unavailable {s : State} (h : s.vecAvailable = false) (r : Result) :
    whenAvailable s r = .fault .vecUnavailable := by
  simp [whenAvailable, h, raise]

theorem finish_available {s : State} (h : s.vecAvailable = true) (t : State) : finish s t = .next t.advance :=
  whenAvailable_available h _

/-- `finish` answers a next state only with the unit available. -/
theorem finish_eq_next {s t u : State} (h : finish s t = .next u) : s.vecAvailable = true ∧ u = t.advance := by
  unfold finish whenAvailable raise at h
  split at h
  · exact ⟨‹_›, by injection h with h; exact h.symm⟩
  · cases h

theorem writeVr_available {s : State} (h : s.vecAvailable = true) (vd : VReg) (v : Vec) :
    writeVr s vd v = .next (s.setVr vd v).advance := finish_available h _

theorem writeVr_eq_next {s u : State} {vd : VReg} {v : Vec} (h : writeVr s vd v = .next u) :
    s.vecAvailable = true ∧ u = (s.setVr vd v).advance := finish_eq_next h

theorem writeVrSat_available {s : State} (h : s.vecAvailable = true) (vd : VReg) (v : Vec × Bool) :
    writeVrSat s vd v = .next ((s.setVr vd v.1).orSat v.2).advance := finish_available h _

theorem writeVrSat_eq_next {s u : State} {vd : VReg} {v : Vec × Bool} (h : writeVrSat s vd v = .next u) :
    s.vecAvailable = true ∧ u = ((s.setVr vd v.1).orSat v.2).advance := finish_eq_next h

theorem writeVrCr6_available {s : State} (h : s.vecAvailable = true) (vd : VReg) (rc : Bool) (v : Vec × BitVec 4) :
    writeVrCr6 s vd rc v =
      .next (if rc then (s.setVr vd v.1).setCr6 v.2 else s.setVr vd v.1).advance := finish_available h _

theorem writeVrCr6_eq_next {s u : State} {vd : VReg} {rc : Bool} {v : Vec × BitVec 4}
    (h : writeVrCr6 s vd rc v = .next u) :
    s.vecAvailable = true ∧ u = (if rc then (s.setVr vd v.1).setCr6 v.2 else s.setVr vd v.1).advance :=
  finish_eq_next h

theorem writeVrDrawn_available {s : State} (h : s.vecAvailable = true) (vd : VReg) (v : Vec) :
    writeVrDrawn s vd v = .next (s.setVr vd v).draw.advance := finish_available h _

theorem writeVrDrawn_eq_next {s u : State} {vd : VReg} {v : Vec} (h : writeVrDrawn s vd v = .next u) :
    s.vecAvailable = true ∧ u = (s.setVr vd v).draw.advance := finish_eq_next h

theorem access_available {s : State} {ea : Word} {n : Nat} (h : s.vecAvailable = true)
    (ha : s.accessible ea.toNat n = true) (k : AccessKind) (after : State) :
    access s ea n k after = .next after.advance := by
  simp [access, whenAvailable, h, ha]

theorem access_outside {s : State} {ea : Word} {n : Nat} (h : s.vecAvailable = true)
    (ha : s.accessible ea.toNat n = false) (k : AccessKind) (after : State) :
    access s ea n k after = .fault (.memFault ea k) := by
  simp [access, whenAvailable, h, ha, raise]

/-- `access` answers a next state only with the unit available and every byte in `MemDomain`. -/
theorem access_eq_next {s after u : State} {ea : Word} {n : Nat} {k : AccessKind}
    (h : access s ea n k after = .next u) :
    s.vecAvailable = true ∧ s.accessible ea.toNat n = true ∧ u = after.advance := by
  unfold access whenAvailable raise at h
  split at h
  · split at h
    · exact ⟨‹_›, ‹_›, by injection h with h; exact h.symm⟩
    · cases h
  · cases h

theorem whenOperandsAllowed_ok (r : Result) : whenOperandsAllowed true r = r := rfl

theorem whenOperandsAllowed_bad (r : Result) : whenOperandsAllowed false r = .refused .excludedOperand := rfl

theorem whenOperandsAllowed_eq_next {ok : Bool} {r : Result} {u : State}
    (h : whenOperandsAllowed ok r = .next u) : ok = true ∧ r = .next u := by
  unfold whenOperandsAllowed at h
  split at h
  · exact ⟨‹_›, h⟩
  · cases h

/-- An access of `2^k` bytes is aligned: its low `k` bits are zero (R51, R55). -/
theorem effective_aligned (s : State) (ra rb : GReg) (k i : Nat) (hi : i < k) :
    (s.effective ra rb k).getLsbD i = false := by
  simp [State.effective, BitVec.getLsbD_shiftLeft, hi]

end Sys2Proof.Machine
end

