-- ==== Sys2Proof/Laws/PerInstr.lean ====
section
/-! SUPPORT. One lemma per instruction: its word carries one of the two primary opcodes (30_encoding.md R81). -/

namespace Sys2Proof.Laws.Opcode

/-- The word of the instruction has primary opcode 31 (X form) or 4 (every other form). -/
def Statement (i : Instr) : Prop := fieldPrimary (encode i) = 31 ∨ fieldPrimary (encode i) = 4

theorem dss (strm : BitVec 2) (a : Bool) :
    Statement (.dss strm a) := .inl (formStream_primary _ _ _ _ _)

theorem dst (ra : GReg) (rb : GReg) (strm : BitVec 2) (t : Bool) :
    Statement (.dst ra rb strm t) := .inl (formStream_primary _ _ _ _ _)

theorem dstst (ra : GReg) (rb : GReg) (strm : BitVec 2) (t : Bool) :
    Statement (.dstst ra rb strm t) := .inl (formStream_primary _ _ _ _ _)

theorem lvebx (vd : VReg) (ra : GReg) (rb : GReg) :
    Statement (.lvebx vd ra rb) := .inl (formX_primary _ _ _ _)

theorem lvehx (vd : VReg) (ra : GReg) (rb : GReg) :
    Statement (.lvehx vd ra rb) := .inl (formX_primary _ _ _ _)

theorem lvewx (vd : VReg) (ra : GReg) (rb : GReg) :
    Statement (.lvewx vd ra rb) := .inl (formX_primary _ _ _ _)

theorem lvsl (vd : VReg) (ra : GReg) (rb : GReg) :
    Statement (.lvsl vd ra rb) := .inl (formX_primary _ _ _ _)

theorem lvsr (vd : VReg) (ra : GReg) (rb : GReg) :
    Statement (.lvsr vd ra rb) := .inl (formX_primary _ _ _ _)

theorem lvx (vd : VReg) (ra : GReg) (rb : GReg) :
    Statement (.lvx vd ra rb) := .inl (formX_primary _ _ _ _)

theorem lvxl (vd : VReg) (ra : GReg) (rb : GReg) :
    Statement (.lvxl vd ra rb) := .inl (formX_primary _ _ _ _)

theorem stvebx (vs : VReg) (ra : GReg) (rb : GReg) :
    Statement (.stvebx vs ra rb) := .inl (formX_primary _ _ _ _)

theorem stvehx (vs : VReg) (ra : GReg) (rb : GReg) :
    Statement (.stvehx vs ra rb) := .inl (formX_primary _ _ _ _)

theorem stvewx (vs : VReg) (ra : GReg) (rb : GReg) :
    Statement (.stvewx vs ra rb) := .inl (formX_primary _ _ _ _)

theorem stvx (vs : VReg) (ra : GReg) (rb : GReg) :
    Statement (.stvx vs ra rb) := .inl (formX_primary _ _ _ _)

theorem stvxl (vs : VReg) (ra : GReg) (rb : GReg) :
    Statement (.stvxl vs ra rb) := .inl (formX_primary _ _ _ _)

theorem mfvscr (vd : VReg) :
    Statement (.mfvscr vd) := .inr (formVX_primary _ _ _ _)

theorem mtvscr (vb : VReg) :
    Statement (.mtvscr vb) := .inr (formVX_primary _ _ _ _)

theorem vaddcuw (vd : VReg) (va : VReg) (vb : VReg) :
    Statement (.vaddcuw vd va vb) := .inr (formVX_primary _ _ _ _)

theorem vaddsbs (vd : VReg) (va : VReg) (vb : VReg) :
    Statement (.vaddsbs vd va vb) := .inr (formVX_primary _ _ _ _)

theorem vaddshs (vd : VReg) (va : VReg) (vb : VReg) :
    Statement (.vaddshs vd va vb) := .inr (formVX_primary _ _ _ _)

theorem vaddsws (vd : VReg) (va : VReg) (vb : VReg) :
    Statement (.vaddsws vd va vb) := .inr (formVX_primary _ _ _ _)

theorem vaddubm (vd : VReg) (va : VReg) (vb : VReg) :
    Statement (.vaddubm vd va vb) := .inr (formVX_primary _ _ _ _)

theorem vaddubs (vd : VReg) (va : VReg) (vb : VReg) :
    Statement (.vaddubs vd va vb) := .inr (formVX_primary _ _ _ _)

theorem vadduhm (vd : VReg) (va : VReg) (vb : VReg) :
    Statement (.vadduhm vd va vb) := .inr (formVX_primary _ _ _ _)

theorem vadduhs (vd : VReg) (va : VReg) (vb : VReg) :
    Statement (.vadduhs vd va vb) := .inr (formVX_primary _ _ _ _)

theorem vadduwm (vd : VReg) (va : VReg) (vb : VReg) :
    Statement (.vadduwm vd va vb) := .inr (formVX_primary _ _ _ _)

theorem vadduws (vd : VReg) (va : VReg) (vb : VReg) :
    Statement (.vadduws vd va vb) := .inr (formVX_primary _ _ _ _)

theorem vsubcuw (vd : VReg) (va : VReg) (vb : VReg) :
    Statement (.vsubcuw vd va vb) := .inr (formVX_primary _ _ _ _)

theorem vsubsbs (vd : VReg) (va : VReg) (vb : VReg) :
    Statement (.vsubsbs vd va vb) := .inr (formVX_primary _ _ _ _)

theorem vsubshs (vd : VReg) (va : VReg) (vb : VReg) :
    Statement (.vsubshs vd va vb) := .inr (formVX_primary _ _ _ _)

theorem vsubsws (vd : VReg) (va : VReg) (vb : VReg) :
    Statement (.vsubsws vd va vb) := .inr (formVX_primary _ _ _ _)

theorem vsububm (vd : VReg) (va : VReg) (vb : VReg) :
    Statement (.vsububm vd va vb) := .inr (formVX_primary _ _ _ _)

theorem vsububs (vd : VReg) (va : VReg) (vb : VReg) :
    Statement (.vsububs vd va vb) := .inr (formVX_primary _ _ _ _)

theorem vsubuhm (vd : VReg) (va : VReg) (vb : VReg) :
    Statement (.vsubuhm vd va vb) := .inr (formVX_primary _ _ _ _)

theorem vsubuhs (vd : VReg) (va : VReg) (vb : VReg) :
    Statement (.vsubuhs vd va vb) := .inr (formVX_primary _ _ _ _)

theorem vsubuwm (vd : VReg) (va : VReg) (vb : VReg) :
    Statement (.vsubuwm vd va vb) := .inr (formVX_primary _ _ _ _)

theorem vsubuws (vd : VReg) (va : VReg) (vb : VReg) :
    Statement (.vsubuws vd va vb) := .inr (formVX_primary _ _ _ _)

theorem vavgsb (vd : VReg) (va : VReg) (vb : VReg) :
    Statement (.vavgsb vd va vb) := .inr (formVX_primary _ _ _ _)

theorem vavgsh (vd : VReg) (va : VReg) (vb : VReg) :
    Statement (.vavgsh vd va vb) := .inr (formVX_primary _ _ _ _)

theorem vavgsw (vd : VReg) (va : VReg) (vb : VReg) :
    Statement (.vavgsw vd va vb) := .inr (formVX_primary _ _ _ _)

theorem vavgub (vd : VReg) (va : VReg) (vb : VReg) :
    Statement (.vavgub vd va vb) := .inr (formVX_primary _ _ _ _)

theorem vavguh (vd : VReg) (va : VReg) (vb : VReg) :
    Statement (.vavguh vd va vb) := .inr (formVX_primary _ _ _ _)

theorem vavguw (vd : VReg) (va : VReg) (vb : VReg) :
    Statement (.vavguw vd va vb) := .inr (formVX_primary _ _ _ _)

theorem vmaxsb (vd : VReg) (va : VReg) (vb : VReg) :
    Statement (.vmaxsb vd va vb) := .inr (formVX_primary _ _ _ _)

theorem vmaxsh (vd : VReg) (va : VReg) (vb : VReg) :
    Statement (.vmaxsh vd va vb) := .inr (formVX_primary _ _ _ _)

theorem vmaxsw (vd : VReg) (va : VReg) (vb : VReg) :
    Statement (.vmaxsw vd va vb) := .inr (formVX_primary _ _ _ _)

theorem vmaxub (vd : VReg) (va : VReg) (vb : VReg) :
    Statement (.vmaxub vd va vb) := .inr (formVX_primary _ _ _ _)

theorem vmaxuh (vd : VReg) (va : VReg) (vb : VReg) :
    Statement (.vmaxuh vd va vb) := .inr (formVX_primary _ _ _ _)

theorem vmaxuw (vd : VReg) (va : VReg) (vb : VReg) :
    Statement (.vmaxuw vd va vb) := .inr (formVX_primary _ _ _ _)

theorem vminsb (vd : VReg) (va : VReg) (vb : VReg) :
    Statement (.vminsb vd va vb) := .inr (formVX_primary _ _ _ _)

theorem vminsh (vd : VReg) (va : VReg) (vb : VReg) :
    Statement (.vminsh vd va vb) := .inr (formVX_primary _ _ _ _)

theorem vminsw (vd : VReg) (va : VReg) (vb : VReg) :
    Statement (.vminsw vd va vb) := .inr (formVX_primary _ _ _ _)

theorem vminub (vd : VReg) (va : VReg) (vb : VReg) :
    Statement (.vminub vd va vb) := .inr (formVX_primary _ _ _ _)

theorem vminuh (vd : VReg) (va : VReg) (vb : VReg) :
    Statement (.vminuh vd va vb) := .inr (formVX_primary _ _ _ _)

theorem vminuw (vd : VReg) (va : VReg) (vb : VReg) :
    Statement (.vminuw vd va vb) := .inr (formVX_primary _ _ _ _)

theorem vcmpequb (vd : VReg) (va : VReg) (vb : VReg) (rc : Bool) :
    Statement (.vcmpequb vd va vb rc) := .inr (formVXR_primary _ _ _ _ _)

theorem vcmpequh (vd : VReg) (va : VReg) (vb : VReg) (rc : Bool) :
    Statement (.vcmpequh vd va vb rc) := .inr (formVXR_primary _ _ _ _ _)

theorem vcmpequw (vd : VReg) (va : VReg) (vb : VReg) (rc : Bool) :
    Statement (.vcmpequw vd va vb rc) := .inr (formVXR_primary _ _ _ _ _)

theorem vcmpgtsb (vd : VReg) (va : VReg) (vb : VReg) (rc : Bool) :
    Statement (.vcmpgtsb vd va vb rc) := .inr (formVXR_primary _ _ _ _ _)

theorem vcmpgtsh (vd : VReg) (va : VReg) (vb : VReg) (rc : Bool) :
    Statement (.vcmpgtsh vd va vb rc) := .inr (formVXR_primary _ _ _ _ _)

theorem vcmpgtsw (vd : VReg) (va : VReg) (vb : VReg) (rc : Bool) :
    Statement (.vcmpgtsw vd va vb rc) := .inr (formVXR_primary _ _ _ _ _)

theorem vcmpgtub (vd : VReg) (va : VReg) (vb : VReg) (rc : Bool) :
    Statement (.vcmpgtub vd va vb rc) := .inr (formVXR_primary _ _ _ _ _)

theorem vcmpgtuh (vd : VReg) (va : VReg) (vb : VReg) (rc : Bool) :
    Statement (.vcmpgtuh vd va vb rc) := .inr (formVXR_primary _ _ _ _ _)

theorem vcmpgtuw (vd : VReg) (va : VReg) (vb : VReg) (rc : Bool) :
    Statement (.vcmpgtuw vd va vb rc) := .inr (formVXR_primary _ _ _ _ _)

theorem vmhaddshs (vd : VReg) (va : VReg) (vb : VReg) (vc : VReg) :
    Statement (.vmhaddshs vd va vb vc) := .inr (formVA_primary _ _ _ _ _)

theorem vmhraddshs (vd : VReg) (va : VReg) (vb : VReg) (vc : VReg) :
    Statement (.vmhraddshs vd va vb vc) := .inr (formVA_primary _ _ _ _ _)

theorem vmladduhm (vd : VReg) (va : VReg) (vb : VReg) (vc : VReg) :
    Statement (.vmladduhm vd va vb vc) := .inr (formVA_primary _ _ _ _ _)

theorem vmsummbm (vd : VReg) (va : VReg) (vb : VReg) (vc : VReg) :
    Statement (.vmsummbm vd va vb vc) := .inr (formVA_primary _ _ _ _ _)

theorem vmsumshm (vd : VReg) (va : VReg) (vb : VReg) (vc : VReg) :
    Statement (.vmsumshm vd va vb vc) := .inr (formVA_primary _ _ _ _ _)

theorem vmsumshs (vd : VReg) (va : VReg) (vb : VReg) (vc : VReg) :
    Statement (.vmsumshs vd va vb vc) := .inr (formVA_primary _ _ _ _ _)

theorem vmsumubm (vd : VReg) (va : VReg) (vb : VReg) (vc : VReg) :
    Statement (.vmsumubm vd va vb vc) := .inr (formVA_primary _ _ _ _ _)

theorem vmsumuhm (vd : VReg) (va : VReg) (vb : VReg) (vc : VReg) :
    Statement (.vmsumuhm vd va vb vc) := .inr (formVA_primary _ _ _ _ _)

theorem vmsumuhs (vd : VReg) (va : VReg) (vb : VReg) (vc : VReg) :
    Statement (.vmsumuhs vd va vb vc) := .inr (formVA_primary _ _ _ _ _)

theorem vmulesb (vd : VReg) (va : VReg) (vb : VReg) :
    Statement (.vmulesb vd va vb) := .inr (formVX_primary _ _ _ _)

theorem vmulesh (vd : VReg) (va : VReg) (vb : VReg) :
    Statement (.vmulesh vd va vb) := .inr (formVX_primary _ _ _ _)

theorem vmuleub (vd : VReg) (va : VReg) (vb : VReg) :
    Statement (.vmuleub vd va vb) := .inr (formVX_primary _ _ _ _)

theorem vmuleuh (vd : VReg) (va : VReg) (vb : VReg) :
    Statement (.vmuleuh vd va vb) := .inr (formVX_primary _ _ _ _)

theorem vmulosb (vd : VReg) (va : VReg) (vb : VReg) :
    Statement (.vmulosb vd va vb) := .inr (formVX_primary _ _ _ _)

theorem vmulosh (vd : VReg) (va : VReg) (vb : VReg) :
    Statement (.vmulosh vd va vb) := .inr (formVX_primary _ _ _ _)

theorem vmuloub (vd : VReg) (va : VReg) (vb : VReg) :
    Statement (.vmuloub vd va vb) := .inr (formVX_primary _ _ _ _)

theorem vmulouh (vd : VReg) (va : VReg) (vb : VReg) :
    Statement (.vmulouh vd va vb) := .inr (formVX_primary _ _ _ _)

theorem vsumsws (vd : VReg) (va : VReg) (vb : VReg) :
    Statement (.vsumsws vd va vb) := .inr (formVX_primary _ _ _ _)

theorem vsum2sws (vd : VReg) (va : VReg) (vb : VReg) :
    Statement (.vsum2sws vd va vb) := .inr (formVX_primary _ _ _ _)

theorem vsum4sbs (vd : VReg) (va : VReg) (vb : VReg) :
    Statement (.vsum4sbs vd va vb) := .inr (formVX_primary _ _ _ _)

theorem vsum4shs (vd : VReg) (va : VReg) (vb : VReg) :
    Statement (.vsum4shs vd va vb) := .inr (formVX_primary _ _ _ _)

theorem vsum4ubs (vd : VReg) (va : VReg) (vb : VReg) :
    Statement (.vsum4ubs vd va vb) := .inr (formVX_primary _ _ _ _)

theorem vand (vd : VReg) (va : VReg) (vb : VReg) :
    Statement (.vand vd va vb) := .inr (formVX_primary _ _ _ _)

theorem vandc (vd : VReg) (va : VReg) (vb : VReg) :
    Statement (.vandc vd va vb) := .inr (formVX_primary _ _ _ _)

theorem vnor (vd : VReg) (va : VReg) (vb : VReg) :
    Statement (.vnor vd va vb) := .inr (formVX_primary _ _ _ _)

theorem vor (vd : VReg) (va : VReg) (vb : VReg) :
    Statement (.vor vd va vb) := .inr (formVX_primary _ _ _ _)

theorem vxor (vd : VReg) (va : VReg) (vb : VReg) :
    Statement (.vxor vd va vb) := .inr (formVX_primary _ _ _ _)

theorem vsel (vd : VReg) (va : VReg) (vb : VReg) (vc : VReg) :
    Statement (.vsel vd va vb vc) := .inr (formVA_primary _ _ _ _ _)

theorem vrlb (vd : VReg) (va : VReg) (vb : VReg) :
    Statement (.vrlb vd va vb) := .inr (formVX_primary _ _ _ _)

theorem vrlh (vd : VReg) (va : VReg) (vb : VReg) :
    Statement (.vrlh vd va vb) := .inr (formVX_primary _ _ _ _)

theorem vrlw (vd : VReg) (va : VReg) (vb : VReg) :
    Statement (.vrlw vd va vb) := .inr (formVX_primary _ _ _ _)

theorem vsl (vd : VReg) (va : VReg) (vb : VReg) :
    Statement (.vsl vd va vb) := .inr (formVX_primary _ _ _ _)

theorem vslb (vd : VReg) (va : VReg) (vb : VReg) :
    Statement (.vslb vd va vb) := .inr (formVX_primary _ _ _ _)

theorem vsldoi (vd : VReg) (va : VReg) (vb : VReg) (shb : BitVec 4) :
    Statement (.vsldoi vd va vb shb) := .inr (formVA_primary _ _ _ _ _)

theorem vslh (vd : VReg) (va : VReg) (vb : VReg) :
    Statement (.vslh vd va vb) := .inr (formVX_primary _ _ _ _)

theorem vslo (vd : VReg) (va : VReg) (vb : VReg) :
    Statement (.vslo vd va vb) := .inr (formVX_primary _ _ _ _)

theorem vslw (vd : VReg) (va : VReg) (vb : VReg) :
    Statement (.vslw vd va vb) := .inr (formVX_primary _ _ _ _)

theorem vsr (vd : VReg) (va : VReg) (vb : VReg) :
    Statement (.vsr vd va vb) := .inr (formVX_primary _ _ _ _)

theorem vsrab (vd : VReg) (va : VReg) (vb : VReg) :
    Statement (.vsrab vd va vb) := .inr (formVX_primary _ _ _ _)

theorem vsrah (vd : VReg) (va : VReg) (vb : VReg) :
    Statement (.vsrah vd va vb) := .inr (formVX_primary _ _ _ _)

theorem vsraw (vd : VReg) (va : VReg) (vb : VReg) :
    Statement (.vsraw vd va vb) := .inr (formVX_primary _ _ _ _)

theorem vsrb (vd : VReg) (va : VReg) (vb : VReg) :
    Statement (.vsrb vd va vb) := .inr (formVX_primary _ _ _ _)

theorem vsrh (vd : VReg) (va : VReg) (vb : VReg) :
    Statement (.vsrh vd va vb) := .inr (formVX_primary _ _ _ _)

theorem vsro (vd : VReg) (va : VReg) (vb : VReg) :
    Statement (.vsro vd va vb) := .inr (formVX_primary _ _ _ _)

theorem vsrw (vd : VReg) (va : VReg) (vb : VReg) :
    Statement (.vsrw vd va vb) := .inr (formVX_primary _ _ _ _)

theorem vmrghb (vd : VReg) (va : VReg) (vb : VReg) :
    Statement (.vmrghb vd va vb) := .inr (formVX_primary _ _ _ _)

theorem vmrghh (vd : VReg) (va : VReg) (vb : VReg) :
    Statement (.vmrghh vd va vb) := .inr (formVX_primary _ _ _ _)

theorem vmrghw (vd : VReg) (va : VReg) (vb : VReg) :
    Statement (.vmrghw vd va vb) := .inr (formVX_primary _ _ _ _)

theorem vmrglb (vd : VReg) (va : VReg) (vb : VReg) :
    Statement (.vmrglb vd va vb) := .inr (formVX_primary _ _ _ _)

theorem vmrglh (vd : VReg) (va : VReg) (vb : VReg) :
    Statement (.vmrglh vd va vb) := .inr (formVX_primary _ _ _ _)

theorem vmrglw (vd : VReg) (va : VReg) (vb : VReg) :
    Statement (.vmrglw vd va vb) := .inr (formVX_primary _ _ _ _)

theorem vperm (vd : VReg) (va : VReg) (vb : VReg) (vc : VReg) :
    Statement (.vperm vd va vb vc) := .inr (formVA_primary _ _ _ _ _)

theorem vpkpx (vd : VReg) (va : VReg) (vb : VReg) :
    Statement (.vpkpx vd va vb) := .inr (formVX_primary _ _ _ _)

theorem vpkshss (vd : VReg) (va : VReg) (vb : VReg) :
    Statement (.vpkshss vd va vb) := .inr (formVX_primary _ _ _ _)

theorem vpkshus (vd : VReg) (va : VReg) (vb : VReg) :
    Statement (.vpkshus vd va vb) := .inr (formVX_primary _ _ _ _)

theorem vpkswss (vd : VReg) (va : VReg) (vb : VReg) :
    Statement (.vpkswss vd va vb) := .inr (formVX_primary _ _ _ _)

theorem vpkswus (vd : VReg) (va : VReg) (vb : VReg) :
    Statement (.vpkswus vd va vb) := .inr (formVX_primary _ _ _ _)

theorem vpkuhum (vd : VReg) (va : VReg) (vb : VReg) :
    Statement (.vpkuhum vd va vb) := .inr (formVX_primary _ _ _ _)

theorem vpkuhus (vd : VReg) (va : VReg) (vb : VReg) :
    Statement (.vpkuhus vd va vb) := .inr (formVX_primary _ _ _ _)

theorem vpkuwum (vd : VReg) (va : VReg) (vb : VReg) :
    Statement (.vpkuwum vd va vb) := .inr (formVX_primary _ _ _ _)

theorem vpkuwus (vd : VReg) (va : VReg) (vb : VReg) :
    Statement (.vpkuwus vd va vb) := .inr (formVX_primary _ _ _ _)

theorem vspltb (vd : VReg) (vb : VReg) (uimm : BitVec 5) :
    Statement (.vspltb vd vb uimm) := .inr (formVX_primary _ _ _ _)

theorem vsplth (vd : VReg) (vb : VReg) (uimm : BitVec 5) :
    Statement (.vsplth vd vb uimm) := .inr (formVX_primary _ _ _ _)

theorem vspltisb (vd : VReg) (simm : BitVec 5) :
    Statement (.vspltisb vd simm) := .inr (formVX_primary _ _ _ _)

theorem vspltish (vd : VReg) (simm : BitVec 5) :
    Statement (.vspltish vd simm) := .inr (formVX_primary _ _ _ _)

theorem vspltisw (vd : VReg) (simm : BitVec 5) :
    Statement (.vspltisw vd simm) := .inr (formVX_primary _ _ _ _)

theorem vspltw (vd : VReg) (vb : VReg) (uimm : BitVec 5) :
    Statement (.vspltw vd vb uimm) := .inr (formVX_primary _ _ _ _)

theorem vupkhpx (vd : VReg) (vb : VReg) :
    Statement (.vupkhpx vd vb) := .inr (formVX_primary _ _ _ _)

theorem vupkhsb (vd : VReg) (vb : VReg) :
    Statement (.vupkhsb vd vb) := .inr (formVX_primary _ _ _ _)

theorem vupkhsh (vd : VReg) (vb : VReg) :
    Statement (.vupkhsh vd vb) := .inr (formVX_primary _ _ _ _)

theorem vupklpx (vd : VReg) (vb : VReg) :
    Statement (.vupklpx vd vb) := .inr (formVX_primary _ _ _ _)

theorem vupklsb (vd : VReg) (vb : VReg) :
    Statement (.vupklsb vd vb) := .inr (formVX_primary _ _ _ _)

theorem vupklsh (vd : VReg) (vb : VReg) :
    Statement (.vupklsh vd vb) := .inr (formVX_primary _ _ _ _)

theorem vaddfp (vd : VReg) (va : VReg) (vb : VReg) :
    Statement (.vaddfp vd va vb) := .inr (formVX_primary _ _ _ _)

theorem vsubfp (vd : VReg) (va : VReg) (vb : VReg) :
    Statement (.vsubfp vd va vb) := .inr (formVX_primary _ _ _ _)

theorem vmaddfp (vd : VReg) (va : VReg) (vc : VReg) (vb : VReg) :
    Statement (.vmaddfp vd va vc vb) := .inr (formVA_primary _ _ _ _ _)

theorem vnmsubfp (vd : VReg) (va : VReg) (vc : VReg) (vb : VReg) :
    Statement (.vnmsubfp vd va vc vb) := .inr (formVA_primary _ _ _ _ _)

theorem vmaxfp (vd : VReg) (va : VReg) (vb : VReg) :
    Statement (.vmaxfp vd va vb) := .inr (formVX_primary _ _ _ _)

theorem vminfp (vd : VReg) (va : VReg) (vb : VReg) :
    Statement (.vminfp vd va vb) := .inr (formVX_primary _ _ _ _)

theorem vcmpbfp (vd : VReg) (va : VReg) (vb : VReg) (rc : Bool) :
    Statement (.vcmpbfp vd va vb rc) := .inr (formVXR_primary _ _ _ _ _)

theorem vcmpeqfp (vd : VReg) (va : VReg) (vb : VReg) (rc : Bool) :
    Statement (.vcmpeqfp vd va vb rc) := .inr (formVXR_primary _ _ _ _ _)

theorem vcmpgefp (vd : VReg) (va : VReg) (vb : VReg) (rc : Bool) :
    Statement (.vcmpgefp vd va vb rc) := .inr (formVXR_primary _ _ _ _ _)

theorem vcmpgtfp (vd : VReg) (va : VReg) (vb : VReg) (rc : Bool) :
    Statement (.vcmpgtfp vd va vb rc) := .inr (formVXR_primary _ _ _ _ _)

theorem vcfsx (vd : VReg) (vb : VReg) (uimm : BitVec 5) :
    Statement (.vcfsx vd vb uimm) := .inr (formVX_primary _ _ _ _)

theorem vcfux (vd : VReg) (vb : VReg) (uimm : BitVec 5) :
    Statement (.vcfux vd vb uimm) := .inr (formVX_primary _ _ _ _)

theorem vctsxs (vd : VReg) (vb : VReg) (uimm : BitVec 5) :
    Statement (.vctsxs vd vb uimm) := .inr (formVX_primary _ _ _ _)

theorem vctuxs (vd : VReg) (vb : VReg) (uimm : BitVec 5) :
    Statement (.vctuxs vd vb uimm) := .inr (formVX_primary _ _ _ _)

theorem vrfim (vd : VReg) (vb : VReg) :
    Statement (.vrfim vd vb) := .inr (formVX_primary _ _ _ _)

theorem vrfin (vd : VReg) (vb : VReg) :
    Statement (.vrfin vd vb) := .inr (formVX_primary _ _ _ _)

theorem vrfip (vd : VReg) (vb : VReg) :
    Statement (.vrfip vd vb) := .inr (formVX_primary _ _ _ _)

theorem vrfiz (vd : VReg) (vb : VReg) :
    Statement (.vrfiz vd vb) := .inr (formVX_primary _ _ _ _)

theorem vexptefp (vd : VReg) (vb : VReg) :
    Statement (.vexptefp vd vb) := .inr (formVX_primary _ _ _ _)

theorem vlogefp (vd : VReg) (vb : VReg) :
    Statement (.vlogefp vd vb) := .inr (formVX_primary _ _ _ _)

theorem vrefp (vd : VReg) (vb : VReg) :
    Statement (.vrefp vd vb) := .inr (formVX_primary _ _ _ _)

theorem vrsqrtefp (vd : VReg) (vb : VReg) :
    Statement (.vrsqrtefp vd vb) := .inr (formVX_primary _ _ _ _)

end Sys2Proof.Laws.Opcode
end

