-- ==== Sys2Proof/Tests/Slice0.lean ====
section
/-! SUPPORT. Tests. Expected values come from the spec: its example words, its vectors (96_derived_vectors.md) and its
program P7. The last part shows that the hypotheses of each statement can be met. -/

set_option maxRecDepth 10000

namespace Sys2Proof.Tests
open Sys2Proof Sys2Proof.Machine

/-! Helpers. -/

/-- Every word decodes to the instruction beside it. -/
def decodesTo (l : List (Word × Instr)) : Bool := l.all fun p => decode p.1 == .ok p.2

/-- The start state with some vector registers and NJ. -/
def startWith (v : List (VReg × Vec)) (nj : Bool) : State :=
  v.foldl (fun s p => s.setVr p.1 p.2) { State.reset with nj := nj }

/-- The word, placed and stepped from that state, gives the register, SAT and CR. -/
def runs (w : Word) (v : List (VReg × Vec)) (nj : Bool) (vd : VReg) (out : Vec) (sat : Bool) (cr : Word) : Bool :=
  match step ((startWith v nj).withFetchWord 32 w.toNat) with
  | .next t => t.getVr vd == out && t.sat == sat && t.cr == cr && t.pc == 4
  | _ => false

/-- A start state with two general registers and one vector register, in a byte order. -/
def startAt (r3 r4 : Word) (v1 : Vec) (le : Bool) : State :=
  { State.reset.setVr 1 v1 with gpr := (State.reset.gpr.set 3 r3).set 4 r4, le := le }

/-- Bytes of memory after an instruction. -/
def storesBytes (i : Instr) (s : State) (a : Nat) (bs : List Byte) : Bool :=
  match exec i s with
  | .next t => t.readBytes a bs.length == bs
  | _ => false

/-- Memory where the byte at each address from 1 to 255 is the address. -/
def counted (s : State) : State := { s with mem := (List.range 255).map fun a => (a + 1, BitVec.ofNat 8 (a + 1)) }

/-! Ill-formed operands: each check refuses one. -/

theorem test_wf_vspltb : Instr.wf (.vspltb 1 2 16) = false ∧ Instr.wf (.vspltb 1 2 15) = true := by decide

theorem test_wf_vsplth : Instr.wf (.vsplth 1 2 8) = false ∧ Instr.wf (.vsplth 1 2 7) = true := by decide

theorem test_wf_vspltw : Instr.wf (.vspltw 1 2 4) = false ∧ Instr.wf (.vspltw 1 2 3) = true := by decide

theorem test_wf_dst : Instr.wf (.dst 0 4 1 false) = false ∧ Instr.wf (.dst 1 4 1 false) = true := by decide

theorem test_wf_dstst : Instr.wf (.dstst 0 4 1 false) = false ∧ Instr.wf (.dstst 1 4 1 false) = true := by decide

/-- The words that 95_test_vectors.md 3.2 lists as refused. -/
theorem test_refused_words :
    ([0x00000000#32, 0xFFFFFFFF, 0x4E800020, 0x7C221A14, 0x7C0004AC, 0x7C2218CF, 0x7C2219CF, 0x7C0022AC,
      0x7E0022EC, 0x7C8322AC, 0x7D20066C, 0x7C23066C, 0x7C201E6C, 0x10210604, 0x10200E04, 0x10201644,
      0x10011644, 0x1022190A, 0x103F1A0E, 0x10210B8C, 0x10301A0C, 0x10281A4C, 0x10241A8C, 0x103F1A8C,
      0x10221F2C, 0x10221801, 0x10221906, 0x10221FFE, 0x10221C0E, 0x10221923, 0x1022192D, 0x10221930].all fun w => (decode w).toOption.isNone) = true := by
  decide

/-! Decoding: the words the spec writes out for each instruction. -/

/-- The example words of 40_data_stream.md. -/
theorem test_decode_data_stream : decodesTo [
    (0x7C40066C, .dss 2 false), (0x7E00066C, .dss 0 true), (0x7C2322AC, .dst 3 4 1 false),
    (0x7E2322AC, .dst 3 4 1 true), (0x7C6532EC, .dstst 5 6 3 false), (0x7E6532EC, .dstst 5 6 3 true)] = true := by
  decide

/-- The example words of 41_load_store.md. -/
theorem test_decode_load_store : decodesTo [
    (0x7C22180E, .lvebx 1 2 3), (0x7C22184E, .lvehx 1 2 3), (0x7C22188E, .lvewx 1 2 3), (0x7C22180C, .lvsl 1 2 3),
    (0x7C22184C, .lvsr 1 2 3), (0x7C2218CE, .lvx 1 2 3), (0x7C221ACE, .lvxl 1 2 3), (0x7C22190E, .stvebx 1 2 3),
    (0x7C22194E, .stvehx 1 2 3), (0x7C22198E, .stvewx 1 2 3), (0x7C2219CE, .stvx 1 2 3), (0x7C221BCE, .stvxl 1 2 3)] = true := by
  decide

/-- The example words of 42_vscr_move.md. -/
theorem test_decode_vscr_move : decodesTo [
    (0x10200604, .mfvscr 1), (0x10001644, .mtvscr 2)] = true := by
  decide

/-- The example words of 43_int_add_sub.md. -/
theorem test_decode_add_sub : decodesTo [
    (0x10221980, .vaddcuw 1 2 3), (0x10221B00, .vaddsbs 1 2 3), (0x10221B40, .vaddshs 1 2 3),
    (0x10221B80, .vaddsws 1 2 3), (0x10221800, .vaddubm 1 2 3), (0x10221A00, .vaddubs 1 2 3),
    (0x10221840, .vadduhm 1 2 3), (0x10221A40, .vadduhs 1 2 3), (0x10221880, .vadduwm 1 2 3),
    (0x10221A80, .vadduws 1 2 3), (0x10221D80, .vsubcuw 1 2 3), (0x10221F00, .vsubsbs 1 2 3),
    (0x10221F40, .vsubshs 1 2 3), (0x10221F80, .vsubsws 1 2 3), (0x10221C00, .vsububm 1 2 3),
    (0x10221E00, .vsububs 1 2 3), (0x10221C40, .vsubuhm 1 2 3), (0x10221E40, .vsubuhs 1 2 3),
    (0x10221C80, .vsubuwm 1 2 3), (0x10221E80, .vsubuws 1 2 3)] = true := by
  decide

/-- The example words of 44_int_avg_minmax.md. -/
theorem test_decode_avg_minmax : decodesTo [
    (0x10221D02, .vavgsb 1 2 3), (0x10221D42, .vavgsh 1 2 3), (0x10221D82, .vavgsw 1 2 3),
    (0x10221C02, .vavgub 1 2 3), (0x10221C42, .vavguh 1 2 3), (0x10221C82, .vavguw 1 2 3),
    (0x10221902, .vmaxsb 1 2 3), (0x10221942, .vmaxsh 1 2 3), (0x10221982, .vmaxsw 1 2 3),
    (0x10221802, .vmaxub 1 2 3), (0x10221842, .vmaxuh 1 2 3), (0x10221882, .vmaxuw 1 2 3),
    (0x10221B02, .vminsb 1 2 3), (0x10221B42, .vminsh 1 2 3), (0x10221B82, .vminsw 1 2 3),
    (0x10221A02, .vminub 1 2 3), (0x10221A42, .vminuh 1 2 3), (0x10221A82, .vminuw 1 2 3)] = true := by
  decide

/-- The example words of 45_int_compare.md. -/
theorem test_decode_compare : decodesTo [
    (0x10221806, .vcmpequb 1 2 3 false), (0x10221C06, .vcmpequb 1 2 3 true), (0x10221846, .vcmpequh 1 2 3 false),
    (0x10221C46, .vcmpequh 1 2 3 true), (0x10221886, .vcmpequw 1 2 3 false), (0x10221C86, .vcmpequw 1 2 3 true),
    (0x10221B06, .vcmpgtsb 1 2 3 false), (0x10221F06, .vcmpgtsb 1 2 3 true), (0x10221B46, .vcmpgtsh 1 2 3 false),
    (0x10221F46, .vcmpgtsh 1 2 3 true), (0x10221B86, .vcmpgtsw 1 2 3 false), (0x10221F86, .vcmpgtsw 1 2 3 true),
    (0x10221A06, .vcmpgtub 1 2 3 false), (0x10221E06, .vcmpgtub 1 2 3 true), (0x10221A46, .vcmpgtuh 1 2 3 false),
    (0x10221E46, .vcmpgtuh 1 2 3 true), (0x10221A86, .vcmpgtuw 1 2 3 false), (0x10221E86, .vcmpgtuw 1 2 3 true)] = true := by
  decide

/-- The example words of 46_int_multiply_sum.md. -/
theorem test_decode_multiply_sum : decodesTo [
    (0x10221920, .vmhaddshs 1 2 3 4), (0x10221921, .vmhraddshs 1 2 3 4), (0x10221922, .vmladduhm 1 2 3 4),
    (0x10221925, .vmsummbm 1 2 3 4), (0x10221928, .vmsumshm 1 2 3 4), (0x10221929, .vmsumshs 1 2 3 4),
    (0x10221924, .vmsumubm 1 2 3 4), (0x10221926, .vmsumuhm 1 2 3 4), (0x10221927, .vmsumuhs 1 2 3 4),
    (0x10221B08, .vmulesb 1 2 3), (0x10221B48, .vmulesh 1 2 3), (0x10221A08, .vmuleub 1 2 3),
    (0x10221A48, .vmuleuh 1 2 3), (0x10221908, .vmulosb 1 2 3), (0x10221948, .vmulosh 1 2 3),
    (0x10221808, .vmuloub 1 2 3), (0x10221848, .vmulouh 1 2 3), (0x10221F88, .vsumsws 1 2 3),
    (0x10221E88, .vsum2sws 1 2 3), (0x10221F08, .vsum4sbs 1 2 3), (0x10221E48, .vsum4shs 1 2 3),
    (0x10221E08, .vsum4ubs 1 2 3)] = true := by
  decide

/-- The example words of 47_logical_shift_rotate.md. -/
theorem test_decode_logical_shift_rotate : decodesTo [
    (0x10221C04, .vand 1 2 3), (0x10221C44, .vandc 1 2 3), (0x10221D04, .vnor 1 2 3), (0x10221C84, .vor 1 2 3),
    (0x10221CC4, .vxor 1 2 3), (0x1022192A, .vsel 1 2 3 4), (0x10221804, .vrlb 1 2 3), (0x10221844, .vrlh 1 2 3),
    (0x10221884, .vrlw 1 2 3), (0x102219C4, .vsl 1 2 3), (0x10221904, .vslb 1 2 3), (0x102218EC, .vsldoi 1 2 3 3),
    (0x10221944, .vslh 1 2 3), (0x10221C0C, .vslo 1 2 3), (0x10221984, .vslw 1 2 3), (0x10221AC4, .vsr 1 2 3),
    (0x10221B04, .vsrab 1 2 3), (0x10221B44, .vsrah 1 2 3), (0x10221B84, .vsraw 1 2 3), (0x10221A04, .vsrb 1 2 3),
    (0x10221A44, .vsrh 1 2 3), (0x10221C4C, .vsro 1 2 3), (0x10221A84, .vsrw 1 2 3)] = true := by
  decide

/-- The example words of 48_permute_pack.md. -/
theorem test_decode_permute_pack : decodesTo [
    (0x1022180C, .vmrghb 1 2 3), (0x1022184C, .vmrghh 1 2 3), (0x1022188C, .vmrghw 1 2 3),
    (0x1022190C, .vmrglb 1 2 3), (0x1022194C, .vmrglh 1 2 3), (0x1022198C, .vmrglw 1 2 3),
    (0x1022192B, .vperm 1 2 3 4), (0x10221B0E, .vpkpx 1 2 3), (0x1022198E, .vpkshss 1 2 3),
    (0x1022190E, .vpkshus 1 2 3), (0x102219CE, .vpkswss 1 2 3), (0x1022194E, .vpkswus 1 2 3),
    (0x1022180E, .vpkuhum 1 2 3), (0x1022188E, .vpkuhus 1 2 3), (0x1022184E, .vpkuwum 1 2 3),
    (0x102218CE, .vpkuwus 1 2 3), (0x10251A0C, .vspltb 1 3 5), (0x10221A4C, .vsplth 1 3 2),
    (0x103D030C, .vspltisb 1 (-3)), (0x103D034C, .vspltish 1 (-3)), (0x103D038C, .vspltisw 1 (-3)),
    (0x10211A8C, .vspltw 1 3 1), (0x10201B4E, .vupkhpx 1 3), (0x10201A0E, .vupkhsb 1 3),
    (0x10201A4E, .vupkhsh 1 3), (0x10201BCE, .vupklpx 1 3), (0x10201A8E, .vupklsb 1 3), (0x10201ACE, .vupklsh 1 3)] = true := by
  decide

/-- The example words of 49_float.md. -/
theorem test_decode_float : decodesTo [
    (0x1022180A, .vaddfp 1 2 3), (0x1022184A, .vsubfp 1 2 3), (0x1022192E, .vmaddfp 1 2 4 3),
    (0x1022192F, .vnmsubfp 1 2 4 3), (0x10221C0A, .vmaxfp 1 2 3), (0x10221C4A, .vminfp 1 2 3),
    (0x10221BC6, .vcmpbfp 1 2 3 false), (0x10221FC6, .vcmpbfp 1 2 3 true), (0x102218C6, .vcmpeqfp 1 2 3 false),
    (0x10221CC6, .vcmpeqfp 1 2 3 true), (0x102219C6, .vcmpgefp 1 2 3 false), (0x10221DC6, .vcmpgefp 1 2 3 true),
    (0x10221AC6, .vcmpgtfp 1 2 3 false), (0x10221EC6, .vcmpgtfp 1 2 3 true), (0x10201B4A, .vcfsx 1 3 0),
    (0x10201B0A, .vcfux 1 3 0), (0x10201BCA, .vctsxs 1 3 0), (0x10201B8A, .vctuxs 1 3 0), (0x10201ACA, .vrfim 1 3),
    (0x10201A0A, .vrfin 1 3), (0x10201A8A, .vrfip 1 3), (0x10201A4A, .vrfiz 1 3), (0x1020198A, .vexptefp 1 3),
    (0x102019CA, .vlogefp 1 3), (0x1020190A, .vrefp 1 3), (0x1020194A, .vrsqrtefp 1 3)] = true := by
  decide

/-! One step of each instruction. -/

/-- 96_derived_vectors.md V35. -/
theorem test_run_vscr_move : (
    runs 0x10200604 [(1, 0xFFFFFFFFFFFFFFFFFFFFFFFFFFFFFFFF)]
      false 1 0x00000000000000000000000000000000 false 0) = true := by decide

/-- 96_derived_vectors.md V50, V47, V48, V49, V41, V44. -/
theorem test_run_add_sub_1 : (
    runs 0x10221980 [(2, 0x00017F80FFFE10F07FFF8000FFFFFFFF), (3, 0x01FF01800102F0100001800000000001)]
      false 1 0x00000000000000010000000000000001 false 0 &&
    runs 0x10221B00 [(2, 0x00017F80FFFE10F07FFF8000FFFFFFFF), (3, 0x01FF01800102F0100001800000000001)]
      false 1 0x01007F80000000007F008000FFFFFF00 true 0 &&
    runs 0x10221B40 [(2, 0x00017F80FFFE10F07FFF8000FFFFFFFF), (3, 0x01FF01800102F0100001800000000001)]
      false 1 0x02007FFF010001007FFF8000FFFF0000 true 0 &&
    runs 0x10221B80 [(2, 0x00017F80FFFE10F07FFF8000FFFFFFFF), (3, 0x01FF01800102F0100001800000000001)]
      false 1 0x02008100010101007FFFFFFF00000000 true 0 &&
    runs 0x10221800 [(2, 0x00017F80FFFE10F07FFF8000FFFFFFFF), (3, 0x01FF01800102F0100001800000000001)]
      false 1 0x01008000000000007F000000FFFFFF00 false 0 &&
    runs 0x10221A00 [(2, 0x00017F80FFFE10F07FFF8000FFFFFFFF), (3, 0x01FF01800102F0100001800000000001)]
      false 1 0x01FF80FFFFFFFFFF7FFFFF00FFFFFFFF true 0) = true := by decide

/-- 96_derived_vectors.md V42, V45, V43, V46, V60, V57. -/
theorem test_run_add_sub_2 : (
    runs 0x10221840 [(2, 0x00017F80FFFE10F07FFF8000FFFFFFFF), (3, 0x01FF01800102F0100001800000000001)]
      false 1 0x020081000100010080000000FFFF0000 false 0 &&
    runs 0x10221A40 [(2, 0x00017F80FFFE10F07FFF8000FFFFFFFF), (3, 0x01FF01800102F0100001800000000001)]
      false 1 0x02008100FFFFFFFF8000FFFFFFFFFFFF true 0 &&
    runs 0x10221880 [(2, 0x00017F80FFFE10F07FFF8000FFFFFFFF), (3, 0x01FF01800102F0100001800000000001)]
      false 1 0x02008100010101008001000000000000 false 0 &&
    runs 0x10221A80 [(2, 0x00017F80FFFE10F07FFF8000FFFFFFFF), (3, 0x01FF01800102F0100001800000000001)]
      false 1 0x02008100FFFFFFFF80010000FFFFFFFF true 0 &&
    runs 0x10221D80 [(2, 0x00017F80FFFE10F07FFF8000FFFFFFFF), (3, 0x01FF01800102F0100001800000000001)]
      false 1 0x00000000000000010000000100000001 false 0 &&
    runs 0x10221F00 [(2, 0x00017F80FFFE10F07FFF8000FFFFFFFF), (3, 0x01FF01800102F0100001800000000001)]
      false 1 0xFF027E00FEFC20E07FFE0000FFFFFFFE false 0) = true := by decide

/-- 96_derived_vectors.md V58, V62, V51, V54, V52, V55. -/
theorem test_run_add_sub_3 : (
    runs 0x10221F40 [(2, 0x00017F80FFFE10F07FFF8000FFFFFFFF), (3, 0x01FF01800102F0100001800000000001)]
      false 1 0xFE027E00FEFC20E07FFE0000FFFFFFFE false 0 &&
    runs 0x10221F80 [(2, 0x800000007FFFFFFF00000005FFFFFFFB), (3, 0x000000017FFFFFFFFFFFFFFD80000000)]
      false 1 0x8000000000000000000000087FFFFFFB true 0 &&
    runs 0x10221C00 [(2, 0x00017F80FFFE10F07FFF8000FFFFFFFF), (3, 0x01FF01800102F0100001800000000001)]
      false 1 0xFF027E00FEFC20E07FFE0000FFFFFFFE false 0 &&
    runs 0x10221E00 [(2, 0x00017F80FFFE10F07FFF8000FFFFFFFF), (3, 0x01FF01800102F0100001800000000001)]
      false 1 0x00007E00FEFC00E07FFE0000FFFFFFFE true 0 &&
    runs 0x10221C40 [(2, 0x00017F80FFFE10F07FFF8000FFFFFFFF), (3, 0x01FF01800102F0100001800000000001)]
      false 1 0xFE027E00FEFC20E07FFE0000FFFFFFFE false 0 &&
    runs 0x10221E40 [(2, 0x00017F80FFFE10F07FFF8000FFFFFFFF), (3, 0x01FF01800102F0100001800000000001)]
      false 1 0x00007E00FEFC00007FFE0000FFFFFFFE true 0) = true := by decide

/-- 96_derived_vectors.md V53, V56. -/
theorem test_run_add_sub_4 : (
    runs 0x10221C80 [(2, 0x00017F80FFFE10F07FFF8000FFFFFFFF), (3, 0x01FF01800102F0100001800000000001)]
      false 1 0xFE027E00FEFB20E07FFE0000FFFFFFFE false 0 &&
    runs 0x10221E80 [(2, 0x00017F80FFFE10F07FFF8000FFFFFFFF), (3, 0x01FF01800102F0100001800000000001)]
      false 1 0x00000000FEFB20E07FFE0000FFFFFFFE true 0) = true := by decide

/-- 96_derived_vectors.md V72, V73, V74, V69, V70, V71. -/
theorem test_run_avg_minmax_1 : (
    runs 0x10221D02 [(2, 0x00017F80FFFE10F07FFF8000FFFFFFFF), (3, 0x01FF01800102F0100001800000000001)]
      false 1 0x01004080000000004000800000000000 false 0 &&
    runs 0x10221D42 [(2, 0x00017F80FFFE10F07FFF8000FFFFFFFF), (3, 0x01FF01800102F0100001800000000001)]
      false 1 0x01004080008000804000800000000000 false 0 &&
    runs 0x10221D82 [(2, 0x00017F80FFFE10F07FFF8000FFFFFFFF), (3, 0x01FF01800102F0100001800000000001)]
      false 1 0x01004080008080804000800000000000 false 0 &&
    runs 0x10221C02 [(2, 0x00017F80FFFE10F07FFF8000FFFFFFFF), (3, 0x01FF01800102F0100001800000000001)]
      false 1 0x01804080808080804080800080808080 false 0 &&
    runs 0x10221C42 [(2, 0x00017F80FFFE10F07FFF8000FFFFFFFF), (3, 0x01FF01800102F0100001800000000001)]
      false 1 0x01004080808080804000800080008000 false 0 &&
    runs 0x10221C82 [(2, 0x00017F80FFFE10F07FFF8000FFFFFFFF), (3, 0x01FF01800102F0100001800000000001)]
      false 1 0x01004080808080804000800080000000 false 0) = true := by decide

/-- 96_derived_vectors.md V78, V79, V80, V75, V76, V77. -/
theorem test_run_avg_minmax_2 : (
    runs 0x10221902 [(2, 0x00017F80FFFE10F07FFF8000FFFFFFFF), (3, 0x01FF01800102F0100001800000000001)]
      false 1 0x01017F80010210107F01800000000001 false 0 &&
    runs 0x10221942 [(2, 0x00017F80FFFE10F07FFF8000FFFFFFFF), (3, 0x01FF01800102F0100001800000000001)]
      false 1 0x01FF7F80010210F07FFF800000000001 false 0 &&
    runs 0x10221982 [(2, 0x00017F80FFFE10F07FFF8000FFFFFFFF), (3, 0x01FF01800102F0100001800000000001)]
      false 1 0x01FF01800102F0107FFF800000000001 false 0 &&
    runs 0x10221802 [(2, 0x00017F80FFFE10F07FFF8000FFFFFFFF), (3, 0x01FF01800102F0100001800000000001)]
      false 1 0x01FF7F80FFFEF0F07FFF8000FFFFFFFF false 0 &&
    runs 0x10221842 [(2, 0x00017F80FFFE10F07FFF8000FFFFFFFF), (3, 0x01FF01800102F0100001800000000001)]
      false 1 0x01FF7F80FFFEF0107FFF8000FFFFFFFF false 0 &&
    runs 0x10221882 [(2, 0x00017F80FFFE10F07FFF8000FFFFFFFF), (3, 0x01FF01800102F0100001800000000001)]
      false 1 0x01FF0180FFFE10F07FFF8000FFFFFFFF false 0) = true := by decide

/-- 96_derived_vectors.md V84, V85, V86, V81, V82, V83. -/
theorem test_run_avg_minmax_3 : (
    runs 0x10221B02 [(2, 0x00017F80FFFE10F07FFF8000FFFFFFFF), (3, 0x01FF01800102F0100001800000000001)]
      false 1 0x00FF0180FFFEF0F000FF8000FFFFFFFF false 0 &&
    runs 0x10221B42 [(2, 0x00017F80FFFE10F07FFF8000FFFFFFFF), (3, 0x01FF01800102F0100001800000000001)]
      false 1 0x00010180FFFEF01000018000FFFFFFFF false 0 &&
    runs 0x10221B82 [(2, 0x00017F80FFFE10F07FFF8000FFFFFFFF), (3, 0x01FF01800102F0100001800000000001)]
      false 1 0x00017F80FFFE10F000018000FFFFFFFF false 0 &&
    runs 0x10221A02 [(2, 0x00017F80FFFE10F07FFF8000FFFFFFFF), (3, 0x01FF01800102F0100001800000000001)]
      false 1 0x00010180010210100001800000000001 false 0 &&
    runs 0x10221A42 [(2, 0x00017F80FFFE10F07FFF8000FFFFFFFF), (3, 0x01FF01800102F0100001800000000001)]
      false 1 0x00010180010210F00001800000000001 false 0 &&
    runs 0x10221A82 [(2, 0x00017F80FFFE10F07FFF8000FFFFFFFF), (3, 0x01FF01800102F0100001800000000001)]
      false 1 0x00017F800102F0100001800000000001 false 0) = true := by decide

/-- 96_derived_vectors.md V89, V90, V101, V104, V96, V97. -/
theorem test_run_compare_1 : (
    runs 0x10221806 [(2, 0x00017F80FFFE10F07FFF8000FFFFFFFF), (3, 0x01FF01800102F0100001800000000001)]
      false 1 0x000000FF000000000000FFFF00000000 false 0 &&
    runs 0x10221846 [(2, 0x00017F80FFFE10F07FFF8000FFFFFFFF), (3, 0x01FF01800102F0100001800000000001)]
      false 1 0x00000000000000000000FFFF00000000 false 0 &&
    runs 0x10221C86 [(2, 0x00017F80FFFE10F07FFF8000FFFFFFFF), (3, 0x00017F80FFFE10F07FFF8000FFFFFFFF)]
      false 1 0xFFFFFFFFFFFFFFFFFFFFFFFFFFFFFFFF false 0x00000080 &&
    runs 0x10221F06 [(2, 0x7F7F7F7F7F7F7F7F7F7F7F7F7F7F7F7F), (3, 0x80808080808080808080808080808080)]
      false 1 0xFFFFFFFFFFFFFFFFFFFFFFFFFFFFFFFF false 0x00000080 &&
    runs 0x10221B46 [(2, 0x00017F80FFFE10F07FFF8000FFFFFFFF), (3, 0x01FF01800102F0100001800000000001)]
      false 1 0x0000FFFF0000FFFFFFFF000000000000 false 0 &&
    runs 0x10221B86 [(2, 0x00017F80FFFE10F07FFF8000FFFFFFFF), (3, 0x01FF01800102F0100001800000000001)]
      false 1 0x0000000000000000FFFFFFFF00000000 false 0) = true := by decide

/-- 96_derived_vectors.md V102, V93, V94. -/
theorem test_run_compare_2 : (
    runs 0x10221E06 [(2, 0x00017F80FFFE10F07FFF8000FFFFFFFF), (3, 0x00017F80FFFE10F07FFF8000FFFFFFFF)]
      false 1 0x00000000000000000000000000000000 false 0x00000020 &&
    runs 0x10221A46 [(2, 0x00017F80FFFE10F07FFF8000FFFFFFFF), (3, 0x01FF01800102F0100001800000000001)]
      false 1 0x0000FFFFFFFF0000FFFF0000FFFFFFFF false 0 &&
    runs 0x10221A86 [(2, 0x00017F80FFFE10F07FFF8000FFFFFFFF), (3, 0x01FF01800102F0100001800000000001)]
      false 1 0x00000000FFFFFFFFFFFFFFFFFFFFFFFF false 0) = true := by decide

/-- 96_derived_vectors.md V106, V107, V108, V110, V113, V114. -/
theorem test_run_multiply_sum_1 : (
    runs 0x10221920 [(2, 0x7FFF80008000FFFF00027FFF40000003), (3, 0x7FFF80007FFFFFFF00037FFF4000FFFD), (4, 0x000100017FFF8000FFFFFFFF00007FFF)]
      false 1 0x7FFF7FFF00008000FFFF7FFD20007FFE true 0 &&
    runs 0x10221921 [(2, 0x7FFF80008000FFFF00027FFF40000003), (3, 0x7FFF80007FFFFFFF00037FFF4000FFFD), (4, 0x000100017FFF8000FFFFFFFF00007FFF)]
      false 1 0x7FFF7FFF00008000FFFF7FFD20007FFF true 0 &&
    runs 0x10221922 [(2, 0x7FFF80008000FFFF00027FFF40000003), (3, 0x7FFF80007FFFFFFF00037FFF4000FFFD), (4, 0x000100017FFF8000FFFFFFFF00007FFF)]
      false 1 0x00020001FFFF80010005000000007FF6 false 0 &&
    runs 0x10221925 [(2, 0x7FFF80008000FFFF00027FFF40000003), (3, 0x7FFF80007FFFFFFF00037FFF4000FFFD), (4, 0x000100017FFF8000FFFFFFFF00007FFF)]
      false 1 0x0000FE037FFF3E8200003E07000092F6 false 0 &&
    runs 0x10221928 [(2, 0x7FFF80008000FFFF00027FFF40000003), (3, 0x7FFF80007FFFFFFF00037FFF4000FFFD), (4, 0x000100017FFF8000FFFFFFFF00007FFF)]
      false 1 0x80000002400000013FFF000610007FF6 false 0 &&
    runs 0x10221929 [(2, 0x7FFF80008000FFFF00027FFF40000003), (3, 0x7FFF80007FFFFFFF00037FFF4000FFFD), (4, 0x000100017FFF8000FFFFFFFF00007FFF)]
      false 1 0x7FFFFFFF400000013FFF000610007FF6 true 0) = true := by decide

/-- 96_derived_vectors.md V109, V111, V112, V115, V116, V117. -/
theorem test_run_multiply_sum_2 : (
    runs 0x10221924 [(2, 0x7FFF80008000FFFF00027FFF40000003), (3, 0x7FFF80007FFFFFFF00037FFF4000FFFD), (4, 0x000100017FFF8000FFFFFFFF00007FFF)]
      false 1 0x00027D038001BB8200013D07000092F6 false 0 &&
    runs 0x10221926 [(2, 0x7FFF80008000FFFF00027FFF40000003), (3, 0x7FFF80007FFFFFFF00037FFF4000FFFD), (4, 0x000100017FFF8000FFFFFFFF00007FFF)]
      false 1 0x80000002BFFD00013FFF000610037FF6 false 0 &&
    runs 0x10221927 [(2, 0x7FFF80008000FFFF00027FFF40000003), (3, 0x7FFF80007FFFFFFF00037FFF4000FFFD), (4, 0x000100017FFF8000FFFFFFFF00007FFF)]
      false 1 0x80000002FFFFFFFFFFFFFFFF10037FF6 true 0 &&
    runs 0x10221B08 [(2, 0x7FFF80008000FFFF00027FFF40000003), (3, 0x7FFF80007FFFFFFF00037FFF4000FFFD)]
      false 1 0x3F014000C080000100003F0110000000 false 0 &&
    runs 0x10221B48 [(2, 0x7FFF80008000FFFF00027FFF40000003), (3, 0x7FFF80007FFFFFFF00037FFF4000FFFD)]
      false 1 0x3FFF0001C00080000000000610000000 false 0 &&
    runs 0x10221A08 [(2, 0x7FFF80008000FFFF00027FFF40000003), (3, 0x7FFF80007FFFFFFF00037FFF4000FFFD)]
      false 1 0x3F0140003F80FE0100003F0110000000 false 0) = true := by decide

/-- 96_derived_vectors.md V118, V119, V120, V121, V122, V129. -/
theorem test_run_multiply_sum_3 : (
    runs 0x10221A48 [(2, 0x7FFF80008000FFFF00027FFF40000003), (3, 0x7FFF80007FFFFFFF00037FFF4000FFFD)]
      false 1 0x3FFF00013FFF80000000000610000000 false 0 &&
    runs 0x10221908 [(2, 0x7FFF80008000FFFF00027FFF40000003), (3, 0x7FFF80007FFFFFFF00037FFF4000FFFD)]
      false 1 0x0001000000000001000600010000FFF7 false 0 &&
    runs 0x10221948 [(2, 0x7FFF80008000FFFF00027FFF40000003), (3, 0x7FFF80007FFFFFFF00037FFF4000FFFD)]
      false 1 0x40000000000000013FFF0001FFFFFFF7 false 0 &&
    runs 0x10221808 [(2, 0x7FFF80008000FFFF00027FFF40000003), (3, 0x7FFF80007FFFFFFF00037FFF4000FFFD)]
      false 1 0xFE0100000000FE010006FE01000002F7 false 0 &&
    runs 0x10221848 [(2, 0x7FFF80008000FFFF00027FFF40000003), (3, 0x7FFF80007FFFFFFF00037FFF4000FFFD)]
      false 1 0x40000000FFFE00013FFF00010002FFF7 false 0 &&
    runs 0x10221F88 [(2, 0x7FFFFFFF7FFFFFFF7FFFFFFF7FFFFFFF), (3, 0x0000000000000000000000007FFFFFFF)]
      false 1 0x0000000000000000000000007FFFFFFF true 0) = true := by decide

/-- 96_derived_vectors.md V132, V133, V134, V135. -/
theorem test_run_multiply_sum_4 : (
    runs 0x10221E88 [(2, 0x7FFFFFFF7FFFFFFF8000000080000000), (3, 0x000000000000000100000000FFFFFFFF)]
      false 1 0x000000007FFFFFFF0000000080000000 true 0 &&
    runs 0x10221F08 [(2, 0x7F7F7F7F8080808001FF01FF01020304), (3, 0x7FFFFFFF80000000000000000000000A)]
      false 1 0x7FFFFFFF800000000000000000000014 true 0 &&
    runs 0x10221E48 [(2, 0x7FFF7FFF800080000001FFFF00010002), (3, 0x7FFFFFFF80000000000000000000000A)]
      false 1 0x7FFFFFFF80000000000000000000000D true 0 &&
    runs 0x10221E08 [(2, 0xFFFFFFFF0102030400000000FFFFFFFF), (3, 0xFFFFFFFF0000000A0000000000000000)]
      false 1 0xFFFFFFFF0000001400000000000003FC true 0) = true := by decide

/-- 96_derived_vectors.md V138, V139, V142, V140, V141, V175. -/
theorem test_run_logical_shift_rotate_1 : (
    runs 0x10221C04 [(2, 0x0123456789ABCDEFFEDCBA9876543210), (3, 0x0F0F0F0FF0F0F0F000FF00FFFFFF0000)]
      false 1 0x0103050780A0C0E000DC009876540000 false 0 &&
    runs 0x10221C44 [(2, 0x0123456789ABCDEFFEDCBA9876543210), (3, 0x0F0F0F0FF0F0F0F000FF00FFFFFF0000)]
      false 1 0x00204060090B0D0FFE00BA0000003210 false 0 &&
    runs 0x10221D04 [(2, 0x0123456789ABCDEFFEDCBA9876543210), (3, 0x0F0F0F0FF0F0F0F000FF00FFFFFF0000)]
      false 1 0xF0D0B09006040200010045000000CDEF false 0 &&
    runs 0x10221C84 [(2, 0x0123456789ABCDEFFEDCBA9876543210), (3, 0x0F0F0F0FF0F0F0F000FF00FFFFFF0000)]
      false 1 0x0F2F4F6FF9FBFDFFFEFFBAFFFFFF3210 false 0 &&
    runs 0x10221CC4 [(2, 0x0123456789ABCDEFFEDCBA9876543210), (3, 0x0F0F0F0FF0F0F0F000FF00FFFFFF0000)]
      false 1 0x0E2C4A68795B3D1FFE23BA6789AB3210 false 0 &&
    runs 0x1022192A [(2, 0x0123456789ABCDEFFEDCBA9876543210), (3, 0x0F0F0F0FF0F0F0F000FF00FFFFFF0000), (4, 0xFFFF000000FF00FFF0F0F0F000000001)]
      false 1 0x0F0F456789F0CDF00EFC0AF876543210 false 0) = true := by decide

/-- 96_derived_vectors.md V146, V150, V154, V158, V147, V168. -/
theorem test_run_logical_shift_rotate_2 : (
    runs 0x10221804 [(2, 0x0123456789ABCDEFFEDCBA9876543210), (3, 0x000102030405060708090A0B0C0D0E0F)]
      false 1 0x0146153B987573F7FEB9EAC4678A8C08 false 0 &&
    runs 0x10221844 [(2, 0x0123456789ABCDEFFEDCBA9876543210), (3, 0x000000010004000F0010FFF10008800C)]
      false 1 0x01238ACE9AB8E6F7FEDC753154760321 false 0 &&
    runs 0x10221884 [(2, 0x0123456789ABCDEFFEDCBA9876543210), (3, 0x000000010000001F00000020FFFFFFE4)]
      false 1 0x02468ACEC4D5E6F7FEDCBA9865432107 false 0 &&
    runs 0x102219C4 [(2, 0x0123456789ABCDEFFEDCBA9876543210), (3, 0x03030303030303030303030303030303)]
      false 1 0x091A2B3C4D5E6F7FF6E5D4C3B2A19080 false 0 &&
    runs 0x10221904 [(2, 0x0123456789ABCDEFFEDCBA9876543210), (3, 0x000102030405060708090A0B0C0D0E0F)]
      false 1 0x0146143890604080FEB8E8C060808000 false 0 &&
    runs 0x1022182C [(2, 0x0123456789ABCDEFFEDCBA9876543210), (3, 0x0F0F0F0FF0F0F0F000FF00FFFFFF0000)]
      false 1 0x0123456789ABCDEFFEDCBA9876543210 false 0) = true := by decide

/-- 96_derived_vectors.md V151, V164, V155, V159, V149, V153. -/
theorem test_run_logical_shift_rotate_3 : (
    runs 0x10221944 [(2, 0x0123456789ABCDEFFEDCBA9876543210), (3, 0x000000010004000F0010FFF10008800C)]
      false 1 0x01238ACE9AB08000FEDC753054000000 false 0 &&
    runs 0x10221C0C [(2, 0x0123456789ABCDEFFEDCBA9876543210), (3, 0x00000000000000000000000000000028)]
      false 1 0xABCDEFFEDCBA98765432100000000000 false 0 &&
    runs 0x10221984 [(2, 0x0123456789ABCDEFFEDCBA9876543210), (3, 0x000000010000001F00000020FFFFFFE4)]
      false 1 0x02468ACE80000000FEDCBA9865432100 false 0 &&
    runs 0x10221AC4 [(2, 0x0123456789ABCDEFFEDCBA9876543210), (3, 0x03030303030303030303030303030303)]
      false 1 0x002468ACF13579BDFFDB97530ECA8642 false 0 &&
    runs 0x10221B04 [(2, 0x0123456789ABCDEFFEDCBA9876543210), (3, 0x000102030405060708090A0B0C0D0E0F)]
      false 1 0x0111110CF8FDFFFFFEEEEEF307020000 false 0 &&
    runs 0x10221B44 [(2, 0x0123456789ABCDEFFEDCBA9876543210), (3, 0x000000010004000F0010FFF10008800C)]
      false 1 0x012322B3F89AFFFFFEDCDD4C00760003 false 0) = true := by decide

/-- 96_derived_vectors.md V157, V148, V152, V165, V156. -/
theorem test_run_logical_shift_rotate_4 : (
    runs 0x10221B84 [(2, 0x0123456789ABCDEFFEDCBA9876543210), (3, 0x000000010000001F00000020FFFFFFE4)]
      false 1 0x0091A2B3FFFFFFFFFEDCBA9807654321 false 0 &&
    runs 0x10221A04 [(2, 0x0123456789ABCDEFFEDCBA9876543210), (3, 0x000102030405060708090A0B0C0D0E0F)]
      false 1 0x0111110C08050301FE6E2E1307020000 false 0 &&
    runs 0x10221A44 [(2, 0x0123456789ABCDEFFEDCBA9876543210), (3, 0x000000010004000F0010FFF10008800C)]
      false 1 0x012322B3089A0001FEDC5D4C00760003 false 0 &&
    runs 0x10221C4C [(2, 0x0123456789ABCDEFFEDCBA9876543210), (3, 0xFFFFFFFFFFFFFFFFFFFFFFFFFFFFFF87)]
      false 1 0x0123456789ABCDEFFEDCBA9876543210 false 0 &&
    runs 0x10221A84 [(2, 0x0123456789ABCDEFFEDCBA9876543210), (3, 0x000000010000001F00000020FFFFFFE4)]
      false 1 0x0091A2B300000001FEDCBA9807654321 false 0) = true := by decide

/-- 96_derived_vectors.md V176, V177, V178, V179, V180, V181. -/
theorem test_run_permute_pack_1 : (
    runs 0x1022180C [(2, 0x000102030405060708090A0B0C0D0E0F), (3, 0x101112131415161718191A1B1C1D1E1F)]
      false 1 0x00100111021203130414051506160717 false 0 &&
    runs 0x1022184C [(2, 0x000102030405060708090A0B0C0D0E0F), (3, 0x101112131415161718191A1B1C1D1E1F)]
      false 1 0x00011011020312130405141506071617 false 0 &&
    runs 0x1022188C [(2, 0x000102030405060708090A0B0C0D0E0F), (3, 0x101112131415161718191A1B1C1D1E1F)]
      false 1 0x00010203101112130405060714151617 false 0 &&
    runs 0x1022190C [(2, 0x000102030405060708090A0B0C0D0E0F), (3, 0x101112131415161718191A1B1C1D1E1F)]
      false 1 0x081809190A1A0B1B0C1C0D1D0E1E0F1F false 0 &&
    runs 0x1022194C [(2, 0x000102030405060708090A0B0C0D0E0F), (3, 0x101112131415161718191A1B1C1D1E1F)]
      false 1 0x080918190A0B1A1B0C0D1C1D0E0F1E1F false 0 &&
    runs 0x1022198C [(2, 0x000102030405060708090A0B0C0D0E0F), (3, 0x101112131415161718191A1B1C1D1E1F)]
      false 1 0x08090A0B18191A1B0C0D0E0F1C1D1E1F false 0) = true := by decide

/-- 96_derived_vectors.md V172, V191, V185, V184, V189, V188. -/
theorem test_run_permute_pack_2 : (
    runs 0x1022192B [(2, 0x000102030405060708090A0B0C0D0E0F), (3, 0x101112131415161718191A1B1C1D1E1F), (4, 0x011418101615191A1C1C1C13081D1B0E)]
      false 1 0x011418101615191A1C1C1C13081D1B0E false 0 &&
    runs 0x10221B0E [(2, 0x01F8F8F8FE070707FFFFFFFF00000000), (3, 0x0180C0E0FF08F81000FF00FF80808080)]
      false 1 0xFFFF0000FFFF0000C31C87E27C1F4210 false 0 &&
    runs 0x1022198E [(2, 0x0000007F008000FF01007FFF8000FF80), (3, 0xFF7FFFFF000101007F007F8080FF8100)]
      false 1 0x007F7F7F7F7F808080FF017F7F7F8080 true 0 &&
    runs 0x1022190E [(2, 0x0000007F008000FF01007FFF8000FF80), (3, 0xFF7FFFFF000101007F007F8080FF8100)]
      false 1 0x007F80FFFFFF0000000001FFFFFF0000 true 0 &&
    runs 0x102219CE [(2, 0x000000000000007F00000080000000FF), (3, 0x000001007FFFFFFF80000000FFFFFF80)]
      false 1 0x0000007F008000FF01007FFF8000FF80 true 0 &&
    runs 0x1022194E [(2, 0x000000000000007F00000080000000FF), (3, 0x000001007FFFFFFF80000000FFFFFF80)]
      false 1 0x0000007F008000FF0100FFFF00000000 true 0) = true := by decide

/-- 96_derived_vectors.md V182, V183, V186, V187, V198, V200. -/
theorem test_run_permute_pack_3 : (
    runs 0x1022180E [(2, 0x0000007F008000FF01007FFF8000FF80), (3, 0xFF7FFFFF000101007F007F8080FF8100)]
      false 1 0x007F80FF00FF00807FFF01000080FF00 false 0 &&
    runs 0x1022188E [(2, 0x0000007F008000FF01007FFF8000FF80), (3, 0xFF7FFFFF000101007F007F8080FF8100)]
      false 1 0x007F80FFFFFFFFFFFFFF01FFFFFFFFFF true 0 &&
    runs 0x1022184E [(2, 0x000000000000007F00000080000000FF), (3, 0x000001007FFFFFFF80000000FFFFFF80)]
      false 1 0x0000007F008000FF0100FFFF0000FF80 false 0 &&
    runs 0x102218CE [(2, 0x000000000000007F00000080000000FF), (3, 0x000001007FFFFFFF80000000FFFFFF80)]
      false 1 0x0000007F008000FF0100FFFFFFFFFFFF true 0 &&
    runs 0x10201A0C [(3, 0x101112131415161718191A1B1C1D1E1F)]
      false 1 0x10101010101010101010101010101010 false 0 &&
    runs 0x10271A4C [(3, 0x101112131415161718191A1B1C1D1E1F)]
      false 1 0x1E1F1E1F1E1F1E1F1E1F1E1F1E1F1E1F false 0) = true := by decide

/-- 96_derived_vectors.md V204, V205, V206, V202, V196, V192. -/
theorem test_run_permute_pack_4 : (
    runs 0x1020030C []
      false 1 0x00000000000000000000000000000000 false 0 &&
    runs 0x1020034C []
      false 1 0x00000000000000000000000000000000 false 0 &&
    runs 0x1020038C []
      false 1 0x00000000000000000000000000000000 false 0 &&
    runs 0x10231A8C [(3, 0x101112131415161718191A1B1C1D1E1F)]
      false 1 0x1C1D1E1F1C1D1E1F1C1D1E1F1C1D1E1F false 0 &&
    runs 0x10201B4E [(3, 0x8000FFFF7C1F83E00001FC004210ABCD)]
      false 1 0xFF000000FF1F1F1F001F001FFF001F00 false 0 &&
    runs 0x10201A0E [(3, 0x007F80FF01FE7F80112233448899AABB)]
      false 1 0x0000007FFF80FFFF0001FFFE007FFF80 false 0) = true := by decide

/-- 96_derived_vectors.md V194, V197, V193, V195. -/
theorem test_run_permute_pack_5 : (
    runs 0x10201A4E [(3, 0x007F80FF01FE7F80112233448899AABB)]
      false 1 0x0000007FFFFF80FF000001FE00007F80 false 0 &&
    runs 0x10201BCE [(3, 0x8000FFFF7C1F83E00001FC004210ABCD)]
      false 1 0x00000001FF1F000000101010FF0A1E0D false 0 &&
    runs 0x10201A8E [(3, 0x007F80FF01FE7F80112233448899AABB)]
      false 1 0x0011002200330044FF88FF99FFAAFFBB false 0 &&
    runs 0x10201ACE [(3, 0x007F80FF01FE7F80112233448899AABB)]
      false 1 0x0000112200003344FFFF8899FFFFAABB false 0) = true := by decide

/-- 96_derived_vectors.md V217, V218, V224, V227, V230, V231. -/
theorem test_run_float_1 : (
    runs 0x1022180A [(2, 0x3F8000007F7FFFFF7F8000007F800001), (3, 0x338000007F7FFFFFFF8000003F800000)]
      false 1 0x3F8000007F8000007FC000007FC00001 false 0 &&
    runs 0x1022184A [(2, 0x3F8000007F7FFFFF7F8000007F800001), (3, 0x338000007F7FFFFFFF8000003F800000)]
      false 1 0x3F7FFFFF000000007F8000007FC00001 false 0 &&
    runs 0x1022192E [(2, 0x3F800000BF8000008000000000000000), (3, 0x80000000800000008000000080000000), (4, 0x40000000000000003F80000080000000)]
      false 1 0x40000000800000008000000080000000 false 0 &&
    runs 0x1022192F [(2, 0x3F8000013FC000007F8000003F800000), (3, 0x3F800002401000007F8000003F800000), (4, 0x3F8000013FC00000000000003F800000)]
      false 1 0xA8800000800000007FC0000080000000 false 0 &&
    runs 0x10221C0A [(2, 0x3F800000800000007FC0000000000001), (3, 0xBF800000000000003F80000080000001)]
      false 1 0x3F800000000000007FC0000000000001 false 0 &&
    runs 0x10221C4A [(2, 0x3F800000800000007FC0000000000001), (3, 0xBF800000000000003F80000080000001)]
      false 1 0xBF800000800000007FC0000080000001 false 0) = true := by decide

/-- 96_derived_vectors.md V242, V235, V236, V237, V247, V249. -/
theorem test_run_float_2 : (
    runs 0x10221FC6 [(2, 0x3F800000C0000000404000007FC00000), (3, 0x40000000400000004000000040000000)]
      false 1 0x000000000000000080000000C0000000 false 0x00000000 &&
    runs 0x10221CC6 [(2, 0x3F800000800000007FC0000040000000), (3, 0x3F800000000000003F8000003F800000)]
      false 1 0xFFFFFFFFFFFFFFFF0000000000000000 false 0x00000000 &&
    runs 0x10221DC6 [(2, 0x3F800000800000007FC0000040000000), (3, 0x3F800000000000003F8000003F800000)]
      false 1 0xFFFFFFFFFFFFFFFF00000000FFFFFFFF false 0x00000000 &&
    runs 0x10221EC6 [(2, 0x3F800000800000007FC0000040000000), (3, 0x3F800000000000003F8000003F800000)]
      false 1 0x000000000000000000000000FFFFFFFF false 0x00000000 &&
    runs 0x10201B4A [(3, 0x00000001FFFFFFFF7FFFFFFF80000000)]
      false 1 0x3F800000BF8000004F000000CF000000 false 0 &&
    runs 0x10201B0A [(3, 0x00000001FFFFFFFF7FFFFFFF80000000)]
      false 1 0x3F8000004F8000004F0000004F000000 false 0) = true := by decide

/-- 96_derived_vectors.md V252, V254, V262, V263, V264, V265. -/
theorem test_run_float_3 : (
    runs 0x10201BCA [(3, 0x3FC00000BFC000004F000000CF000001)]
      false 1 0x00000001FFFFFFFF7FFFFFFF80000000 true 0 &&
    runs 0x10201B8A [(3, 0x3FC00000BFC000004F000000CF000001)]
      false 1 0x00000001000000008000000000000000 true 0 &&
    runs 0x10201ACA [(3, 0x3FC00000BFC0000040200000C0200000)]
      false 1 0x3F800000C000000040000000C0400000 false 0 &&
    runs 0x10201A0A [(3, 0x3FC00000BFC0000040200000C0200000)]
      false 1 0x40000000C000000040000000C0000000 false 0 &&
    runs 0x10201A8A [(3, 0x3FC00000BFC0000040200000C0200000)]
      false 1 0x40000000BF80000040400000C0000000 false 0 &&
    runs 0x10201A4A [(3, 0x3FC00000BFC0000040200000C0200000)]
      false 1 0x3F800000BF80000040000000C0000000 false 0) = true := by decide

/-- 96_derived_vectors.md V274, V277, V279, V281. -/
theorem test_run_float_4 : (
    runs 0x1020198A [(3, 0x40400000BF80000080000000FF800000)]
      false 1 0x410000003F0000003F80000000000000 false 0 &&
    runs 0x102019CA [(3, 0x00000000BF8000007F8000007F800001)]
      false 1 0xFF8000007FC000007F8000007FC00001 false 0 &&
    runs 0x1020190A [(3, 0x800000007F8000007FC00000FF800000)]
      false 1 0xFF800000000000007FC0000080000000 false 0 &&
    runs 0x1020194A [(3, 0x800000007F800000BF80000000000000)]
      false 1 0xFF800000000000007FC000007F800000 false 0) = true := by decide

/-- V37 to V39: `mtvscr` reads bits 111 and 127 only. -/
theorem test_run_mtvscr :
    (match exec (.mtvscr 2) (startWith [(2, 0xFFFFFFFFFFFFFFFFFFFFFFFFFFFEFFFF)] true) with
      | .next t => !t.nj && t.sat && t.vscr == 1
      | _ => false) = true := by decide

/-! Loads, stores, streams. -/

/-- What an element load leaves in the addressed element. -/
theorem loadElement_elem (s : State) (vd : VReg) (ea : Word) (k : Nat) (hk : k ≤ 2) (h : s.vecAvailable = true)
    (ha : s.accessible ea.toNat (2 ^ k) = true) (hi : s.elementIndex ea k < 128 / (8 * 2 ^ k)) :
    ∃ t, loadElement vd ea k s = .next t ∧
      elem (8 * 2 ^ k) (t.getVr vd) (s.elementIndex ea k) = s.memRead (8 * 2 ^ k) ea.toNat (2 ^ k) := by
  refine ⟨_, access_available h ha _ _, ?_⟩
  have hw : 8 * 2 ^ k = 8 ∨ 8 * 2 ^ k = 16 ∨ 8 * 2 ^ k = 32 := by interval_cases k <;> simp
  show elem _ ((s.setVr vd (loadedElement s ea k)).getVr vd) _ = _
  simp [State.getVr, State.setVr, loadedElement, elem_setElem _ _ _ _ _ hw hi]

/-- V8, V9, V10, V15: the byte at 0x1E goes to byte 14, the halfword at 0x2A to halfword 5, the word at 0x54 to word 1, or
in little-endian mode with its bytes reversed to word 2. -/
theorem test_element_loads :
    (∃ t, exec (.lvebx 1 0 4) (counted (startAt 0 0x1E 0 false)) = .next t ∧ elem 8 (t.getVr 1) 14 = 0x1E) ∧
    (∃ t, exec (.lvehx 1 3 4) (counted (startAt 0x20 0x0B 0 false)) = .next t ∧ elem 16 (t.getVr 1) 5 = 0x2A2B) ∧
    (∃ t, exec (.lvewx 1 3 4) (counted (startAt 0x50 7 0 false)) = .next t ∧ elem 32 (t.getVr 1) 1 = 0x54555657) ∧
    ∃ t, exec (.lvewx 1 3 4) (counted (startAt 0x50 7 0 true)) = .next t ∧ elem 32 (t.getVr 1) 2 = 0x57565554 := by
  refine ⟨?_, ?_, ?_, ?_⟩
  · obtain ⟨t, ht, he⟩ := loadElement_elem (counted (startAt 0 0x1E 0 false)) 1 0x1E 0 (by decide) rfl (by decide) (by decide)
    exact ⟨t, ht, he.trans (by decide)⟩
  · obtain ⟨t, ht, he⟩ :=
      loadElement_elem (counted (startAt 0x20 0x0B 0 false)) 1 0x2A 1 (by decide) rfl (by decide) (by decide)
    exact ⟨t, ht, he.trans (by decide)⟩
  · obtain ⟨t, ht, he⟩ :=
      loadElement_elem (counted (startAt 0x50 7 0 false)) 1 0x54 2 (by decide) rfl (by decide) (by decide)
    exact ⟨t, ht, he.trans (by decide)⟩
  · obtain ⟨t, ht, he⟩ :=
      loadElement_elem (counted (startAt 0x50 7 0 true)) 1 0x54 2 (by decide) rfl (by decide) (by decide)
    exact ⟨t, ht, he.trans (by decide)⟩

/-- V11, V12, V16, V17: the quadword loads in both byte orders. -/
theorem test_quadword_loads :
    ([(Instr.lvx 1 3 4, false, (0xA0A1A2A3A4A5A6A7A8A9AAABACADAEAF : Vec)), (.lvxl 1 3 4, false, 0xA0A1A2A3A4A5A6A7A8A9AAABACADAEAF),
      (.lvx 1 3 4, true, 0xAFAEADACABAAA9A8A7A6A5A4A3A2A1A0), (.lvxl 1 3 4, true, 0xAFAEADACABAAA9A8A7A6A5A4A3A2A1A0)].all
      fun p => match exec p.1 (counted (startAt 0xA0 0xF 0 p.2.1)) with
        | .next t => t.getVr 1 == p.2.2
        | _ => false) = true := by decide

/-- V28, V30: the alignment vectors of address 0x0C. -/
theorem test_alignment_vectors :
    ([(Instr.lvsl 1 3 4, (0x0C0D0E0F101112131415161718191A1B : Vec)), (.lvsr 1 3 4, 0x0405060708090A0B0C0D0E0F10111213)].all
      fun p => match exec p.1 (startAt 8 4 0 false) with
        | .next t => t.getVr 1 == p.2
        | _ => false) = true := by decide

/-- V18 to V21: the big-endian stores. -/
theorem test_stores_big_endian :
    (storesBytes (.stvebx 1 0 4) (startAt 0 0x1E 0xF0F1F2F3F4F5F6F7F8F9FAFBFCFDFEFF false) 0x1D [0, 0xFE, 0] &&
    storesBytes (.stvehx 1 3 4) (startAt 0x20 0x0B 0xF0F1F2F3F4F5F6F7F8F9FAFBFCFDFEFF false) 0x29 [0, 0xFA, 0xFB, 0] &&
    storesBytes (.stvewx 1 3 4) (startAt 0x50 7 0xF0F1F2F3F4F5F6F7F8F9FAFBFCFDFEFF false) 0x53
      [0, 0xF4, 0xF5, 0xF6, 0xF7, 0] &&
    storesBytes (.stvx 1 3 4) (startAt 0xA0 0xF 0xF0F1F2F3F4F5F6F7F8F9FAFBFCFDFEFF false) 0x9F
      [0, 0xF0, 0xF1, 0xF2, 0xF3, 0xF4, 0xF5, 0xF6, 0xF7, 0xF8, 0xF9, 0xFA, 0xFB, 0xFC, 0xFD, 0xFE, 0xFF, 0]) = true := by
  decide

/-- V23 to V25, V27: the little-endian stores. -/
theorem test_stores_little_endian :
    (storesBytes (.stvebx 1 0 4) (startAt 0 0x1E 0xF0F1F2F3F4F5F6F7F8F9FAFBFCFDFEFF true) 0x1D [0, 0xF1, 0] &&
    storesBytes (.stvehx 1 3 4) (startAt 0x20 0x0B 0xF0F1F2F3F4F5F6F7F8F9FAFBFCFDFEFF true) 0x29 [0, 0xF5, 0xF4, 0] &&
    storesBytes (.stvewx 1 3 4) (startAt 0x50 7 0xF0F1F2F3F4F5F6F7F8F9FAFBFCFDFEFF true) 0x53
      [0, 0xFB, 0xFA, 0xF9, 0xF8, 0] &&
    storesBytes (.stvxl 1 3 4) (startAt 0xA0 0xF 0xF0F1F2F3F4F5F6F7F8F9FAFBFCFDFEFF true) 0x9F
      [0, 0xFF, 0xFE, 0xFD, 0xFC, 0xFB, 0xFA, 0xF9, 0xF8, 0xF7, 0xF6, 0xF5, 0xF4, 0xF3, 0xF2, 0xF1, 0xF0, 0]) = true := by
  decide

/-- V2, V3: zero fields of the control word mean the maximum; the ignored bits 0:2 are set. -/
theorem test_stream_control :
    (match exec (.dst 3 4 1 true) (startAt 0x1000 0xE0000000 0 false) with
      | .next t => t.getStream 1 == some ⟨0x1000, 32, 256, 32768, true, false⟩ && t.getStream 0 == none
      | _ => false) &&
    (match exec (.dstst 3 4 3 false) (startAt 0xFFFFFFF0 0x1FFFFFFF 0 false) with
      | .next t => t.getStream 3 == some ⟨0xFFFFFFF0, 31, 255, 65535, false, true⟩
      | _ => false) = true := by decide

/-- V5 to V7: `dss 2` stops one stream, `dssall` every one. -/
theorem test_stream_stop :
    (match exec (.dst 3 4 2 true) (startAt 0x1000 0 0 false) with
      | .next t =>
        (match exec (.dss 2 false) t, exec (.dss 1 false) t, exec (.dss 0 true) t with
          | .next u, .next v, .next w => u.getStream 2 == none && v.getStream 2 != none && w.getStream 2 == none
          | _, _, _ => false)
      | _ => false) = true := by decide

/-! Events. -/

/-- P7a, P7c: the fault names the aligned address, after the sum wrapped. -/
theorem test_mem_fault :
    exec (.lvx 1 0 3) { startAt 0x300F 0 0 false with domain := [(0x1000, 0x2FFF)] } = .fault (.memFault 0x3000 .load) ∧
    exec (.lvewx 1 3 4) { startAt 0xFFFFFFFF 0xFFF 0 false with domain := [(0x1000, 0x2FFF)] } =
      .fault (.memFault 0xFFC .load) ∧
    exec (.stvebx 1 0 3) { startAt 0x3000 0 0 false with domain := [(0x1000, 0x2FFF)] } =
      .fault (.memFault 0x3000 .store) := ⟨rfl, rfl, rfl⟩

/-- P7f: a disabled vector unit stops a vector instruction and not a data-stream one. -/
theorem test_vec_unavailable :
    exec (.vspltisb 1 7) { State.reset with vecAvailable := false } = .fault .vecUnavailable ∧
    ∃ t, exec (.dss 0 true) { State.reset with vecAvailable := false } = .next t := ⟨rfl, _, rfl⟩

/-- P7d: the word 0 is stuck. -/
theorem test_stuck_word : step State.reset = .refused (.undecodable 0 .otherPrimary) := rfl

/-- The host's two readings of a word. -/
theorem test_table_word : decodeTableWord 32 0x10221800 = some (.vaddubm 1 2 3) ∧ decodeTableWord 32 0x00000000 = none := by
  decide

/-- A run of one instruction ends at its end address. -/
theorem test_run_ends : ∃ u, run 4 9 (State.reset.withFetchWord 32 0x1027030C) = .ended u := ⟨_, rfl⟩

/-! Each hypothesis can be met. -/

/-- A start state with a stream at the greatest size, count and stride. -/
def streaming : State :=
  State.reset.setStream 3 (some ⟨0, 32, 256, 65535, false, true⟩)

theorem witness_decode_of_encode :
    Instr.wf (.vspltb 1 2 15) = true ∧ Instr.wf (.vspltw 31 0 3) = true ∧ Instr.wf (.dst 31 0 3 true) = true := by decide

theorem witness_encode_of_decode : decode 0x7FFFFACE = .ok (.lvxl 31 31 31) := by decide

/-- A word for each clause, at the first number that is not in the table. -/
theorem witness_unassigned_words :
    (fieldPrimary 0x14000000 ≠ 4 ∧ fieldPrimary 0x14000000 ≠ 31) ∧
    (fieldPrimary 0x7C000010 = 31 ∧ (fieldXoX 0x7C000010).toNat = 8) ∧
    (fieldPrimary 0x10000023 = 4 ∧ (0x10000023 : Word).getLsbD 5 = true ∧ (fieldXoVA 0x10000023).toNat = 35) ∧
    (fieldPrimary 0x10000001 = 4 ∧ (0x10000001 : Word).getLsbD 5 = false ∧ (fieldXoVX 0x10000001).toNat = 1 ∧
      (fieldXoVXR 0x10000001).toNat = 1) := by decide

/-- A word for each form that has a zero field. -/
theorem witness_reserved_fields :
    decode 0x7C40066C = .ok (.dss 2 false) ∧ decode 0x7C2322AC = .ok (.dst 3 4 1 false) ∧
    decode 0x1020190A = .ok (.vrefp 1 3) ∧ decode 0x1020030C = .ok (.vspltisb 1 0) ∧
    decode 0x10200604 = .ok (.mfvscr 1) ∧ decode 0x10001644 = .ok (.mtvscr 2) ∧
    decode 0x10221BEC = .ok (.vsldoi 1 2 3 15) ∧ decode 0x102F1A0C = .ok (.vspltb 1 3 15) ∧
    decode 0x10271A4C = .ok (.vsplth 1 3 7) ∧ decode 0x10231A8C = .ok (.vspltw 1 3 3) := by decide

/-- At the last aligned address of the space. -/
def lastWord : State := { State.reset with pc := 0xFFFFFFFC }.withFetchWord 32 0x10221800

theorem witness_step_runs :
    lastWord.pc.toNat % 4 = 0 ∧ lastWord.accessible lastWord.pc.toNat 4 = true ∧
    (∀ j, j < 4 → lastWord.pc.toNat + j ∉ lastWord.stored) ∧
    decode (lastWord.memRead 32 lastWord.pc.toNat 4) = .ok (.vaddubm 1 2 3) := by decide

/-- `lvx v1,0,r3` at 0x1000 with an address past the domain 0x1000 to 0x2FFF. -/
def loadOutside (vec : Bool) : State :=
  { startAt 0x300F 0 0 false with domain := [(0x1000, 0x2FFF)], pc := 0x1000, vecAvailable := vec }.withFetchWord 32
    0x7C2018CE

/-- A state for each of the four stages. -/
theorem witness_event_priority :
    { State.reset with domain := [(0, 2)] }.accessible 0 4 = false ∧
    (State.reset.accessible 0 4 = true ∧ decode (State.reset.memRead 32 0 4) = .error .otherPrimary) ∧
    ((loadOutside false).accessible 0x1000 4 = true ∧ (loadOutside false).stored = [] ∧
      decode ((loadOutside false).memRead 32 0x1000 4) = .ok (.lvx 1 0 3) ∧ (loadOutside false).vecAvailable = false ∧
      isStreamInstr (.lvx 1 0 3) = false) ∧
    (decode ((loadOutside true).memRead 32 0x1000 4) = .ok (.lvx 1 0 3) ∧
      accessOf (.lvx 1 0 3) (loadOutside true) = some (0x3000, 16, .load) ∧ (loadOutside true).vecAvailable = true ∧
      (loadOutside true).accessible 0x3000 16 = false) := by decide

/-- The first and the last of the four fetched bytes. -/
theorem witness_stored_code :
    (State.reset.pc.toNat % 4 = 0 ∧ { State.reset with stored := [3] }.accessible 0 4 = true ∧
      0 + 0 ∈ { State.reset with stored := [0] }.stored ∧ 0 + 3 ∈ { State.reset with stored := [3] }.stored) ∧
    ∃ t, exec (.stvebx 1 0 0) State.reset = .next t ∧ t.stored = [0] := ⟨by decide, _, rfl, rfl⟩

theorem witness_pc_advances : ∃ t, step lastWord = .next t ∧ t.pc = 0 := ⟨_, rfl, rfl⟩

theorem witness_frames :
    (∃ t, exec (.stvx 1 0 0) State.reset = .next t) ∧ (∃ t, exec (.vcmpequb 1 2 3 true) State.reset = .next t) ∧
    ∃ t, exec (.vaddsbs 1 2 3) State.reset = .next t := ⟨⟨_, rfl⟩, ⟨_, rfl⟩, _, rfl⟩

theorem witness_vscr_writers :
    isMtvscr (.vaddubm 1 2 3) = false ∧ canSetSat (.vaddubm 1 2 3) = false ∧ canSetSat (.vaddsbs 1 2 3) = true := by decide

theorem witness_vector_unit :
    Instr.wf (.dst 1 0 0 true) = true ∧ isStreamInstr (.dst 1 0 0 true) = true ∧ Instr.wf (.vor 1 2 3) = true ∧
    isStreamInstr (.vor 1 2 3) = false := by decide

theorem witness_completion :
    State.reset.vecAvailable = true ∧ accessOf (.vor 1 2 3) State.reset = none ∧
    accessOf (.lvx 1 0 0) State.reset = some (0, 16, .load) ∧ State.reset.accessible 0 16 = true ∧
    { State.reset with domain := [(0, 14)] }.accessible 0 16 = false := by decide

theorem witness_excluded : 15 < (16 : BitVec 5).toNat ∧ 7 < (8 : BitVec 5).toNat ∧ 3 < (4 : BitVec 5).toNat := by decide

theorem witness_invariant : Inv (streaming.withFetchWord 32 0x10221800) ∧
    ∃ t, step (streaming.withFetchWord 32 0x10221800) = .next t := by
  refine ⟨⟨by decide, by decide, by decide, by decide, ?_⟩, _, rfl⟩
  decide

theorem witness_run :
    (∃ u, run 0 0 State.reset = .ended u) ∧
    (∃ u, run 4 1 { State.reset with domain := [] } = .faulted (.memFault 0 .fetch) u) ∧
    ∃ u, run 4 1 State.reset = .stuck (.undecodable 0 .otherPrimary) u := ⟨⟨_, rfl⟩, ⟨_, rfl⟩, _, rfl⟩

theorem witness_endian : accessOf (.vsldoi 1 2 3 15) State.reset = none := rfl

theorem witness_streams : (1 : GReg) ≠ 0 := by decide

theorem witness_effective_address : (startAt 0xFFFFFFFF 0xFFFFFFFF 0 false).effective 3 4 4 = 0xFFFFFFF0 ∧
    (startAt 0xFFFFFFFF 0xFFFFFFFF 0 false).effective 0 4 0 = 0xFFFFFFFF := by decide

/-- The three sizes at the end of a quadword. -/
theorem witness_element_access :
    let s := startAt 0xFFFFFFFF 0 0 true
    (s.effective 3 4 0 = 0xFFFFFFFF ∧ s.accessible 0xFFFFFFFF (2 ^ 0) = true) ∧
    (s.effective 3 4 1 = 0xFFFFFFFE ∧ s.accessible 0xFFFFFFFE (2 ^ 1) = true) ∧
    (s.effective 3 4 2 = 0xFFFFFFFC ∧ s.accessible 0xFFFFFFFC (2 ^ 2) = true) ∧ s.vecAvailable = true := by decide

/-- Quadword access at the top of the space. -/
theorem witness_quadword_access :
    let s := startAt 0xFFFFFFFF 0 0 true
    s.vecAvailable = true ∧ s.accessible (s.effective 3 4 4).toNat 16 = true := by decide

theorem witness_alignment_vectors : 15 = ((startAt 0xFFFFFFFF 0 0 true).effective 3 4 0).toNat % 16 := by decide

/-- The one hypothesis on the state of the statements about instructions that work on registers alone; their other
hypotheses only name operands of that state. -/
theorem witness_available : State.reset.vecAvailable = true := rfl

theorem witness_families (vd va vb : VReg) (rc : Bool) :
    (32, Instr.vmaxsw vd va vb, Instr.vminsw vd va vb) ∈ [(8, Instr.vmaxsb vd va vb, Instr.vminsb vd va vb),
      (16, Instr.vmaxsh vd va vb, Instr.vminsh vd va vb), (32, Instr.vmaxsw vd va vb, Instr.vminsw vd va vb)] ∧
    (32, Instr.vcmpequw vd va vb rc, Instr.vcmpgtsw vd va vb rc, Instr.vcmpgtuw vd va vb rc) ∈
      [(32, Instr.vcmpequw vd va vb rc, Instr.vcmpgtsw vd va vb rc, Instr.vcmpgtuw vd va vb rc)] := by simp

/-- Both cases of the whole-register shifts, at the greatest count. -/
theorem witness_bit_shifts :
    ((∀ k, k < 16 → (elem 8 (0x0F0F0F0F0F0F0F0F0F0F0F0F0F0F0F0F : Vec) k).toNat % 8 = 7) ∧
      (0x0F0F0F0F0F0F0F0F0F0F0F0F0F0F0F0F : Vec).toNat % 8 = 7) ∧
    ∃ k, k < 16 ∧ (elem 8 (7 : Vec) k).toNat % 8 ≠ 7 := ⟨by decide, 0, by decide⟩

theorem witness_octet_shifts : 15 = (0x78 : Vec).toNat / 8 % 16 := by decide

theorem witness_packs (s : State) (va vb : VReg) : ∃ wide : Nat → Nat → Word, ∀ w j, wide w j =
    (if j < 128 / w then elem w (s.getVr va) j else elem w (s.getVr vb) (j - 128 / w)).signExtend 32 := ⟨_, fun _ _ => rfl⟩

theorem witness_splats : (15 : BitVec 5).toNat ≤ 15 ∧ (7 : BitVec 5).toNat ≤ 7 ∧ (3 : BitVec 5).toNat ≤ 3 := by decide

/-- Operands of each class: NaN, infinities that cancel, zero times infinity, zeros, finite words. -/
theorem witness_float_classes :
    isNaN 0x7F800001 = true ∧ (isInf 0x7F800000 = true ∧ isInf 0xFF800000 = true ∧ fpSign 0x7F800000 ≠ fpSign 0xFF800000) ∧
    isZero 0x80000000 = true ∧ (isFinite 0x7F7FFFFF = true ∧ isFinite 0x00000001 = true ∧ isZero 0x00000001 = false) ∧
    fpRat 0x3F800000 + fpRat 0xBF800000 = 0 := by
  refine ⟨by decide, by decide, by decide, by decide, ?_⟩
  rw [fpRat, fpRat, show fpScaled 0x3F800000 = 2 ^ 149 by decide, show fpScaled 0xBF800000 = -2 ^ 149 by decide]
  norm_num

/-- A quotient that rounds up to the least denormalized word. -/
theorem witness_rounding : (2 : Int) ≠ 0 ∧ 0 < 3 ∧ roundNE 2 3 = 1 ∧ roundNE (-1) 2 = 0x80000000 := by decide

/-- A flushed operand. -/
theorem witness_flush : njWord { State.reset with nj := true } 0x807FFFFF = 0x80000000 ∧
    njWord { State.reset with nj := true } 0x80800000 = 0x80800000 := by decide

/-- The ends of the accurate range of `vrefp`: `1/x` is 2^-126, and just below 2^128. -/
theorem witness_reciprocal_range : fpRat 0x7E800000 = 2 ^ 126 ∧ fpRat 0x00200001 = (2 ^ 21 + 1) / 2 ^ 149 := by
  rw [fpRat, fpRat, show fpScaled 0x7E800000 = 2 ^ 149 * 2 ^ 126 by decide, show fpScaled 0x00200001 = 2 ^ 21 + 1 by decide]
  norm_num

/-- The ends of the accurate range of `vexptefp` and of its exact powers: -126, the word before 128, -149, 127. -/
theorem witness_power_range : fpRat 0xC2FC0000 = -126 ∧ fpRat 0x42FFFFFF = 128 - 1 / 2 ^ 17 ∧ fpRat 0xC3150000 = -149 ∧
    fpRat 0x42FE0000 = 127 := by
  rw [fpRat, fpRat, fpRat, fpRat, show fpScaled 0xC2FC0000 = -126 * 2 ^ 149 by decide,
    show fpScaled 0x42FFFFFF = (2 ^ 24 - 1) * 2 ^ 132 by decide, show fpScaled 0xC3150000 = -149 * 2 ^ 149 by decide,
    show fpScaled 0x42FE0000 = 127 * 2 ^ 149 by decide]
  norm_num

/-- The first words away from 1 for `vlogefp`. -/
theorem witness_log_range : fpRat 0x3F900001 - 1 = 1 / 8 + 1 / 2 ^ 23 ∧ fpRat 0x3F5FFFFF - 1 = -(1 / 8) - 1 / 2 ^ 24 := by
  rw [fpRat, fpRat, show fpScaled 0x3F900001 = (9 * 2 ^ 20 + 1) * 2 ^ 126 by decide,
    show fpScaled 0x3F5FFFFF = (2 ^ 23 + 0x5FFFFF) * 2 ^ 125 by decide]
  norm_num

end Sys2Proof.Tests
end

section
/-! PROOFS. The saturating packs (48_permute_pack.md R289 to R292, R294, R296) and the conversions to integers
(49_float.md R338, R339): what the instructions that write a vector and SAT leave behind, said once, then each element
function read as a clamp of an exact integer. -/

namespace Sys2Proof.Proofs
open Sys2Proof Sys2Proof.Machine

/-! The end of an instruction that writes a vector and SAT. -/

/-- Writing `vd` and SAT, then advancing, keeps everything that the frame of a register write names. -/
theorem registerFrame_setVr_orSat (s : State) (vd : VReg) (v : Vec) (f : Bool) :
    RegisterFrame vd s ((s.setVr vd v).orSat f).advance := by
  have hvr : VrKeptBut vd s ((s.setVr vd v).orSat f).advance := fun r hr => by
    calc ((s.setVr vd v).orSat f).advance.getVr r
        = (s.setVr vd v).getVr r := State.getVr_congr (by simp) r
      _ = s.getVr r := State.getVr_setVr_ne s vd r v hr
  exact ⟨hvr, State.getGpr_congr (by simp), by simp, State.readByte_congr (by simp),
    State.getStream_congr (by simp), by simp [ParametersKept], by simp, by simp⟩

/-- What a saturating vector instruction leaves behind: the value of each element in `vd`, in SAT the OR of its old
value with the elements' flags, and the rest as it was. -/
theorem writeVrSat_vecOfSat {w : Nat} (hw : w = 8 ∨ w = 16 ∨ w = 32) {s : State} (ha : s.vecAvailable = true)
    (vd : VReg) (f : Nat → BitVec w × Bool) :
    ∃ t, writeVrSat s vd (vecOfSat w f) = .next t ∧ (∀ k, k < 128 / w → elem w (t.getVr vd) k = (f k).1) ∧
      (t.sat = true ↔ s.sat = true ∨ ∃ k, k < 128 / w ∧ (f k).2 = true) ∧
      t.cr = s.cr ∧ t.fresh = s.fresh ∧ RegisterFrame vd s t := by
  refine ⟨_, writeVrSat_available ha vd _, fun k hk => ?_, ?_, by simp, by simp, registerFrame_setVr_orSat s vd _ _⟩
  · calc elem w (((s.setVr vd (vecOfSat w f).1).orSat (vecOfSat w f).2).advance.getVr vd) k
        = elem w ((s.setVr vd (vecOfSat w f).1).getVr vd) k := by
          rw [State.getVr_congr (s := s.setVr vd (vecOfSat w f).1) (by simp)]
      _ = elem w (vecOf w fun k => (f k).1) k := by rw [State.getVr_setVr_same, vecOfSat]
      _ = (f k).1 := elem_vecOf w _ k hw hk
  · simp [vecOfSat_flag]

/-- Elements that are signed clamps of the integers `z k`, written with their flags. -/
theorem writesSigned_satS {w : Nat} (hw : w = 8 ∨ w = 16 ∨ w = 32) {s : State} (ha : s.vecAvailable = true)
    (vd : VReg) (z : Nat → Int) : WritesSigned w vd s (writeVrSat s vd (vecOfSat w fun k => satS w (z k))) z := by
  obtain ⟨t, hnext, helem, hsat, hrest⟩ := writeVrSat_vecOfSat hw ha vd fun k => satS w (z k)
  have hspec := fun k => satS_spec (n := w) (by omega) (z k)
  refine ⟨t, hnext, fun k hk => ?_, ?_, hrest⟩
  · rw [helem k hk, (hspec k).1]
  · simp only [hsat, (hspec _).2]

/-- Elements that are unsigned clamps of the integers `z k`, written with their flags. -/
theorem writesUnsigned_satU {w : Nat} (hw : w = 8 ∨ w = 16 ∨ w = 32) {s : State} (ha : s.vecAvailable = true)
    (vd : VReg) (z : Nat → Int) : WritesUnsigned w vd s (writeVrSat s vd (vecOfSat w fun k => satU w (z k))) z := by
  obtain ⟨t, hnext, helem, hsat, hrest⟩ := writeVrSat_vecOfSat hw ha vd fun k => satU w (z k)
  refine ⟨t, hnext, fun k hk => ?_, ?_, hrest⟩
  · rw [helem k hk, (satU_spec w (z k)).1]
  · simp only [hsat, (satU_spec w (z _)).2]

/-! The saturating packs. -/

/-- A signed reading does not see a sign extension. -/
theorem sint_elemPair {w : Nat} (hw : w ≤ 32) {a b : Vec} {j : Nat} {x : Word}
    (hx : x = (elemPair w a b j).signExtend 32) : sint (elemPair w a b j) = x.toInt := by
  rw [hx, BitVec.toInt_signExtend_of_le hw, sint]

/-- An unsigned reading is that of the low `w` bits of the sign extension. -/
theorem uint_elemPair {w : Nat} (hw : w ≤ 32) {a b : Vec} {j : Nat} {x : Word}
    (hx : x = (elemPair w a b j).signExtend 32) : uint (elemPair w a b j) = (x.toNat % 2 ^ w : Nat) := by
  have hlow : x.setWidth w = elemPair w a b j := by
    apply BitVec.eq_of_getLsbD_eq
    intro i hi
    rw [hx, BitVec.getLsbD_setWidth, BitVec.getLsbD_signExtend]
    simp [hi, show i < 32 by omega]
  rw [uint, ← BitVec.toNat_setWidth, hlow]

section
variable {w : Nat} (hw : w = 8 ∨ w = 16 ∨ w = 32) {s : State} (ha : s.vecAvailable = true) (vd : VReg) {a b : Vec}
  {r : BitVec (2 * w) → Int} {z : Nat → Int} (hz : ∀ j, r (elemPair (2 * w) a b j) = z j)
include hw ha hz

/-- A pack with a signed clamp writes the clamps of the wide elements of `a || b`, each read by `r`. -/
theorem writesSigned_packSat : WritesSigned w vd s (writeVrSat s vd (packSat w (satS w) r a b)) z := by
  obtain rfl : (fun j => r (elemPair (2 * w) a b j)) = z := funext hz
  exact writesSigned_satS hw ha vd _

/-- The same with an unsigned clamp. -/
theorem writesUnsigned_packSat : WritesUnsigned w vd s (writeVrSat s vd (packSat w (satU w) r a b)) z := by
  obtain rfl : (fun j => r (elemPair (2 * w) a b j)) = z := funext hz
  exact writesUnsigned_satU hw ha vd _

end

/-- Settles O42: each pack writes the clamps of the elements of `vA || vB`, read as the instruction reads them. -/
theorem packsSaturating : Obligations.packs_saturating := by
  intro s vd va vb wide ha hwide
  have hpair : ∀ w j, wide w j = (elemPair w (s.getVr va) (s.getVr vb) j).signExtend 32 := hwide
  have hs16 := fun j => sint_elemPair (by decide) (hpair 16 j)
  have hu16 := fun j => uint_elemPair (by decide) (hpair 16 j)
  have hs32 := fun j => sint_elemPair le_rfl (hpair 32 j)
  have hu32 : ∀ j, uint (elemPair 32 (s.getVr va) (s.getVr vb) j) = (wide 32 j).toNat := fun j => by
    rw [uint_elemPair le_rfl (hpair 32 j), Nat.mod_eq_of_lt (wide 32 j).isLt]
  have h8 : 8 = 8 ∨ 8 = 16 ∨ 8 = 32 := .inl rfl
  have h16 : 16 = 8 ∨ 16 = 16 ∨ 16 = 32 := .inr (.inl rfl)
  exact ⟨writesSigned_packSat h8 ha vd hs16, writesUnsigned_packSat h8 ha vd hs16, writesUnsigned_packSat h8 ha vd hu16,
    writesSigned_packSat h16 ha vd hs32, writesUnsigned_packSat h16 ha vd hs32,
    writesUnsigned_packSat h16 ha vd hu32⟩

/-! The conversions to integers. -/

/-- Truncation of an exact quotient toward zero is the truncating division of integers. -/
theorem towardZero_div (a : Int) {d : Nat} (hd : 0 < d) : towardZero ((a : ℚ) / (d : ℚ)) = a.tdiv d := by
  have hq : (0 : ℚ) < d := by exact_mod_cast hd
  rcases lt_or_ge a 0 with ha | ha
  · have hneg : (a : ℚ) / d < 0 := div_neg_of_neg_of_pos (by exact_mod_cast ha) hq
    rw [towardZero, if_pos hneg, Rat.ceil_intCast_div_natCast, ← Int.tdiv_eq_ediv_of_nonneg (by omega), Int.neg_tdiv,
      neg_neg]
  · have hnonneg : 0 ≤ (a : ℚ) / d := div_nonneg (by exact_mod_cast ha) hq.le
    rw [towardZero, if_neg hnonneg.not_gt, Rat.floor_intCast_div_natCast, Int.tdiv_eq_ediv_of_nonneg ha]

/-- The model's integer part is the exact product with the power of two, toward zero (D19). -/
theorem fpToInt_eq_towardZero (w : Word) (u : Nat) : fpToInt w u = towardZero (fpRat w * 2 ^ u) := by
  have hq : fpRat w * 2 ^ u = ((fpScaled w * ((2 ^ u : Nat) : Int) : Int) : ℚ) / (fpUnit : ℚ) := by
    rw [fpRat, fpUnit, div_mul_eq_mul_div]; push_cast; rfl
  rw [hq, towardZero_div _ (by unfold fpUnit; positivity), fpToInt]

/-- `vctsxs` on one element is the signed clamp of the converted integer: a NaN stands for 0 (D22), and an infinity is
clamped like the integer beyond every range that stands for it (log entry 30). -/
theorem fpToSigned_eq_satS (w : Word) (u : Nat) : fpToSigned w u = satS 32 (convertedInt w u) := by
  unfold fpToSigned convertedInt
  split
  case isTrue => decide
  case isFalse =>
    split
    case isTrue => cases fpSign w <;> decide
    case isFalse => rw [fpToInt_eq_towardZero]

/-- `vctuxs` on one element is the unsigned clamp of the converted integer. -/
theorem fpToUnsigned_eq_satU (w : Word) (u : Nat) : fpToUnsigned w u = satU 32 (convertedInt w u) := by
  unfold fpToUnsigned convertedInt
  split
  case isTrue => decide
  case isFalse =>
    split
    case isTrue => cases fpSign w <;> decide
    case isFalse => rw [fpToInt_eq_towardZero]

/-- Settles O52: both instructions write the clamps of the converted integers of `vB`. -/
theorem floatToInteger : Obligations.float_to_integer := by
  intro s vd vb u ha
  have hsigned : exec (.vctsxs vd vb u) s =
      writeVrSat s vd (vecOfSat 32 fun k => satS 32 (convertedInt (elem 32 (s.getVr vb) k) u.toNat)) := by
    simp only [← fpToSigned_eq_satS]; rfl
  have hunsigned : exec (.vctuxs vd vb u) s =
      writeVrSat s vd (vecOfSat 32 fun k => satU 32 (convertedInt (elem 32 (s.getVr vb) k) u.toNat)) := by
    simp only [← fpToUnsigned_eq_satU]; rfl
  rw [hsigned, hunsigned]
  exact ⟨writesSigned_satS (.inr (.inr rfl)) ha vd _, writesUnsigned_satU (.inr (.inr rfl)) ha vd _⟩

end Sys2Proof.Proofs
end

section
/-! PROOFS. What an instruction writes (10_state.md): every state that an instruction can leave, listed once with the
class of instructions that can leave it; the frames of CR, VSCR, general registers, memory and streams, and the machine
invariant, are read off that list. -/

namespace Sys2Proof.Proofs
open Sys2Proof Sys2Proof.Machine

/-! Every state that an instruction can leave. -/

/-- The states that a completing instruction can leave: one constructor for each way the meanings of `exec` change the
state, guarded by the class of instructions that do so. -/
inductive Leaves (i : Instr) (s : State) : State → Prop where
  /-- A vector register is written. -/
  | register (vd : VReg) (v : Vec) : Leaves i s (s.setVr vd v).advance
  /-- A vector register is written with a free value (U1, U2, U7). -/
  | drawn (vd : VReg) (v : Vec) : Leaves i s (s.setVr vd v).draw.advance
  /-- A vector register is written, and SAT where an element was clamped (R27). -/
  | saturated (h : canSetSat i = true) (vd : VReg) (v : Vec) (f : Bool) : Leaves i s ((s.setVr vd v).orSat f).advance
  /-- A vector register and CR6 are written (R23). -/
  | recorded (h : recordsCr6 i = true) (vd : VReg) (v : Vec) (f : BitVec 4) :
      Leaves i s ((s.setVr vd v).setCr6 f).advance
  /-- VSCR is written (R141). -/
  | vscr (h : isMtvscr i = true) (w : Word) : Leaves i s (s.setVscr w).advance
  /-- An element of `2^k` bytes is stored (R127 to R129). -/
  | element {ra rb : GReg} {k : Nat} (hk : k ≤ 4) (h : accessOf i s = some (s.effective ra rb k, 2 ^ k, .store))
      {w : Nat} (v : BitVec w) : Leaves i s (s.memWrite (s.effective ra rb k).toNat (2 ^ k) v).advance
  /-- A quadword is stored (R130, R131). -/
  | quad {ra rb : GReg} (h : accessOf i s = some (s.effective ra rb 4, 16, .store)) (v : Vec) :
      Leaves i s (s.memWriteQuad (s.effective ra rb 4).toNat v).advance
  /-- A stream is stopped (R111). -/
  | stopped (h : isStreamInstr i = true) (k : BitVec 2) : Leaves i s (s.setStream k none).advance
  /-- Every stream is stopped (R111). -/
  | stoppedAll (h : isStreamInstr i = true) : Leaves i s s.clearStreams.advance
  /-- A stream is started from a control word (R112, R113). -/
  | started (h : isStreamInstr i = true) (k : BitVec 2) (addr c : Word) (transient forStore : Bool) :
      Leaves i s (s.setStream k (some (streamOf addr c transient forStore))).advance

section
variable {i : Instr} {s t : State}

theorem leaves_of_writeVr {vd : VReg} {v : Vec} (h : writeVr s vd v = .next t) : Leaves i s t := by
  obtain ⟨-, rfl⟩ := writeVr_eq_next h
  exact .register vd v

theorem leaves_of_writeVrDrawn {vd : VReg} {v : Vec} (h : writeVrDrawn s vd v = .next t) : Leaves i s t := by
  obtain ⟨-, rfl⟩ := writeVrDrawn_eq_next h
  exact .drawn vd v

theorem leaves_of_writeVrSat (hi : canSetSat i = true) {vd : VReg} {v : Vec × Bool}
    (h : writeVrSat s vd v = .next t) : Leaves i s t := by
  obtain ⟨-, rfl⟩ := writeVrSat_eq_next h
  exact .saturated hi vd v.1 v.2

theorem leaves_of_writeVrCr6 {rc : Bool} (hi : recordsCr6 i = rc) {vd : VReg} {v : Vec × BitVec 4}
    (h : writeVrCr6 s vd rc v = .next t) : Leaves i s t := by
  obtain ⟨-, rfl⟩ := writeVrCr6_eq_next h
  cases rc with
  | false => exact .register vd v.1
  | true => exact .recorded hi vd v.1 v.2

theorem leaves_of_writeShifted {vd : VReg} {b v : Vec} (h : writeShifted s vd b v = .next t) : Leaves i s t := by
  unfold writeShifted at h
  split at h
  · exact leaves_of_writeVr h
  · exact leaves_of_writeVrDrawn h

theorem leaves_of_loadElement {vd : VReg} {ea : Word} {k : Nat} (h : loadElement vd ea k s = .next t) :
    Leaves i s t := by
  obtain ⟨-, -, rfl⟩ := access_eq_next h
  exact .drawn vd _

theorem leaves_of_loadQuad {vd : VReg} {ea : Word} (h : loadQuad vd ea s = .next t) : Leaves i s t := by
  obtain ⟨-, -, rfl⟩ := access_eq_next h
  exact .register vd _

theorem leaves_of_storeElement {vs : VReg} {ra rb : GReg} {k : Nat} (hk : k ≤ 4)
    (hi : accessOf i s = some (s.effective ra rb k, 2 ^ k, .store))
    (h : storeElement vs (s.effective ra rb k) k s = .next t) : Leaves i s t := by
  obtain ⟨-, -, rfl⟩ := access_eq_next h
  exact .element hk hi _

theorem leaves_of_storeQuad {vs : VReg} {ra rb : GReg}
    (hi : accessOf i s = some (s.effective ra rb 4, 16, .store))
    (h : storeQuad vs (s.effective ra rb 4) s = .next t) : Leaves i s t := by
  obtain ⟨-, -, rfl⟩ := access_eq_next h
  exact .quad hi _

theorem leaves_of_execMtvscr (hi : isMtvscr i = true) {vb : VReg} (h : execMtvscr vb s = .next t) :
    Leaves i s t := by
  obtain ⟨-, rfl⟩ := finish_eq_next h
  exact .vscr hi _

theorem leaves_of_execDss (hi : isStreamInstr i = true) {strm : BitVec 2} {a : Bool}
    (h : execDss strm a s = .next t) : Leaves i s t := by
  cases h
  cases a with
  | false => exact .stopped hi strm
  | true => exact .stoppedAll hi

/-- The end of `dst` and `dstst`. -/
theorem leaves_of_startStream (hi : isStreamInstr i = true) {ok : Bool} {k : BitVec 2} {addr c : Word}
    {transient forStore : Bool}
    (h : whenOperandsAllowed ok (finishStream (s.setStream k (some (streamOf addr c transient forStore)))) = .next t) :
    Leaves i s t := by
  obtain ⟨-, h⟩ := whenOperandsAllowed_eq_next h
  cases h
  exact .started hi k addr c transient forStore

/-- An instruction that completes leaves one of the listed states; the instructions that the split does not name write
one vector register and nothing else. -/
theorem leaves_of_exec (h : exec i s = .next t) : Leaves i s t := by
  cases i with
  | dss => exact leaves_of_execDss rfl h
  | dst | dstst => exact leaves_of_startStream rfl h
  | lvebx | lvehx | lvewx => exact leaves_of_loadElement h
  | lvx | lvxl => exact leaves_of_loadQuad h
  | stvebx | stvehx | stvewx => exact leaves_of_storeElement (by decide) rfl h
  | stvx | stvxl => exact leaves_of_storeQuad rfl h
  | mtvscr => exact leaves_of_execMtvscr rfl h
  | vaddsbs | vaddshs | vaddsws | vaddubs | vadduhs | vadduws | vsubsbs | vsubshs | vsubsws | vsububs | vsubuhs
  | vsubuws | vctsxs | vctuxs | vmhaddshs | vmhraddshs | vmsumshs | vmsumuhs | vpkshss | vpkshus | vpkswss | vpkswus
  | vpkuhus | vpkuwus | vsumsws | vsum2sws | vsum4sbs | vsum4shs | vsum4ubs => exact leaves_of_writeVrSat rfl h
  | vcmpequb | vcmpequh | vcmpequw | vcmpgtsb | vcmpgtsh | vcmpgtsw | vcmpgtub | vcmpgtuh | vcmpgtuw | vcmpbfp
  | vcmpeqfp | vcmpgefp | vcmpgtfp => exact leaves_of_writeVrCr6 rfl h
  | vsl | vsr => exact leaves_of_writeShifted h
  | vexptefp | vlogefp | vrefp | vrsqrtefp => exact leaves_of_writeVrDrawn h
  | vspltb | vsplth | vspltw => exact leaves_of_writeVr (whenOperandsAllowed_eq_next h).2
  | _ => exact leaves_of_writeVr h

end

/-! What no instruction writes, and what only stores and the data-stream instructions write. -/

section
variable {i : Instr} {s t : State}

theorem Leaves.gpr (h : Leaves i s t) : t.gpr = s.gpr := by cases h <;> simp

theorem Leaves.parametersKept (h : Leaves i s t) : ParametersKept s t := by cases h <;> simp [ParametersKept]

/-- A byte outside a store lies below or above the bytes of its access. -/
theorem outside_of_not_storesTo {ea : Word} {n a : Nat} (hi : accessOf i s = some (ea, n, .store))
    (ha : ¬StoresTo i s a) : a < ea.toNat ∨ ea.toNat + n ≤ a := by
  by_contra hin
  exact ha ⟨ea, n, hi, by omega, by omega⟩

theorem Leaves.readByte (h : Leaves i s t) {a : Nat} (ha : ¬StoresTo i s a) : t.readByte a = s.readByte a := by
  cases h with
  | element hk hi v => exact State.readByte_memWrite_outside s v (outside_of_not_storesTo hi ha)
  | quad hi v => exact State.readByte_memWriteQuad_outside s v (outside_of_not_storesTo hi ha)
  | _ => exact State.readByte_congr (by simp) a

theorem Leaves.stream (h : Leaves i s t) (hi : isStreamInstr i = false) : t.stream = s.stream := by
  cases h with
  | stopped hs | stoppedAll hs | started hs => simp [hi] at hs
  | _ => simp

end

/-- Settles O10: each listed state keeps the general registers and parameters, a store changes only the bytes of its
access, and the states with another stream are left by data-stream instructions. -/
theorem registersMemoryStreamsKept : Obligations.registers_memory_streams_kept := by
  intro i s t h
  have hl : Leaves i s t := leaves_of_exec h
  exact ⟨State.getGpr_congr hl.gpr, hl.parametersKept, fun _ ha => hl.readByte ha,
    fun hi => State.getStream_congr (hl.stream hi)⟩

/-! CR (R23). -/

theorem setCr6_cr_high (s : State) (f : BitVec 4) :
    (s.setCr6 f).cr.extractLsb' 8 24 = s.cr.extractLsb' 8 24 := by
  calc (s.setCr6 f).cr.extractLsb' 8 24
      = (s.cr.extractLsb' 8 24 ++ f).extractLsb' 4 24 := extract_append_high _ _ (by decide)
    _ = (s.cr.extractLsb' 8 24).extractLsb' 0 24 := extract_append_high _ _ (by decide)
    _ = s.cr.extractLsb' 8 24 := extract_all _

theorem setCr6_cr_low (s : State) (f : BitVec 4) : (s.setCr6 f).cr.extractLsb' 0 4 = s.cr.extractLsb' 0 4 := by
  calc (s.setCr6 f).cr.extractLsb' 0 4
      = (s.cr.extractLsb' 0 4).extractLsb' 0 4 := extract_append_low _ _ (by decide)
    _ = s.cr.extractLsb' 0 4 := extract_all _

/-- CR is as before, or a recording compare wrote its field 6. -/
theorem Leaves.cr {i : Instr} {s t : State} (h : Leaves i s t) :
    t.cr = s.cr ∨ recordsCr6 i = true ∧ ∃ f, t.cr = (s.setCr6 f).cr := by
  cases h with
  | recorded hi vd v f => exact .inr ⟨hi, f, rfl⟩
  | _ => exact .inl (by simp)

/-- Settles O11: the one listed state with another CR is that of a recording compare, and it differs in field 6. -/
theorem crWrittenByRecordingCompares : Obligations.cr_written_by_recording_compares := by
  intro i s t h
  rcases (leaves_of_exec h).cr with hcr | ⟨hi, f, hcr⟩
  · simp [hcr]
  · rw [hcr]
    exact ⟨fun hn => by simp [hi] at hn, setCr6_cr_high s f, setCr6_cr_low s f⟩

/-! VSCR (R26, R27). -/

section
variable {i : Instr} {s t : State}

theorem Leaves.nj (h : Leaves i s t) (hi : isMtvscr i = false) : t.nj = s.nj := by
  cases h with
  | vscr hv => simp [hi] at hv
  | _ => simp

/-- Without `mtvscr`, SAT is as before, or an instruction of R27 ORed a flag into it. -/
theorem Leaves.sat (h : Leaves i s t) (hi : isMtvscr i = false) :
    t.sat = s.sat ∨ canSetSat i = true ∧ ∃ f, t.sat = (s.sat || f) := by
  cases h with
  | vscr hv => simp [hi] at hv
  | saturated hs vd v f => exact .inr ⟨hs, f, rfl⟩
  | _ => exact .inl (by simp)

end

/-- Settles O12: only `mtvscr` leaves another NJ, and SAT is kept or ORed with a flag by one of the 29 instructions. -/
theorem vscrWriters : Obligations.vscr_writers := by
  intro i s t h hi
  have hl : Leaves i s t := leaves_of_exec h
  refine ⟨hl.nj hi, ?_⟩
  rcases hl.sat hi with hsat | ⟨hs, f, hsat⟩
  · simp [hsat]
  · exact ⟨fun h1 => by simp [hsat, h1], fun hn => by simp [hs] at hn⟩

/-! The machine invariant: what each operation on the state needs to keep it. -/

/-- Settles O17: memory, the stored addresses and the streams are empty, and `pc` is 0. -/
theorem resetMeetsInvariant : Obligations.reset_meets_invariant := by
  refine ⟨State.reset_mem_wf, List.Pairwise.nil, by simp [State.reset], rfl, ?_⟩
  intro k d hd
  simp [State.getStream, State.reset] at hd

section
variable {s t : State}

/-- The invariant depends on memory, the stored addresses, `pc` and the streams alone. -/
theorem inv_congr (h : Inv s) (hmem : t.mem = s.mem) (hstored : t.stored = s.stored) (hpc : t.pc = s.pc)
    (hstream : t.stream = s.stream) : Inv t := by
  simpa only [Machine.Inv, State.getStream, hmem, hstored, hpc, hstream] using h

/-- An aligned `pc` is aligned again after an instruction, also past the end of the address space. -/
theorem inv_advance (h : Inv s) : Inv s.advance := by
  obtain ⟨hmem, hsorted, hbound, hpc, hstream⟩ := h
  refine ⟨hmem, hsorted, hbound, ?_, hstream⟩
  have hnext : s.advance.pc.toNat = (s.pc.toNat + 4) % 2 ^ 32 := BitVec.toNat_add s.pc 4
  omega

/-- A store inside the address space keeps the canonical memory and the rising list of stored addresses. -/
theorem inv_memWrite (h : Inv s) {w a n : Nat} (v : BitVec w) (ha : a + n ≤ 2 ^ 32) : Inv (s.memWrite a n v) := by
  obtain ⟨hmem, hsorted, hbound, hpc, hstream⟩ := h
  refine ⟨State.memWrite_wf v hmem ha, addAddresses_sorted a n hsorted, ?_, hpc, hstream⟩
  intro b hb
  rcases (mem_addAddresses s.stored a n b).1 hb with hnew | hold
  · omega
  · exact hbound b hold

theorem inv_memWriteQuad (h : Inv s) {a : Nat} (v : Vec) (ha : a + 16 ≤ 2 ^ 32) : Inv (s.memWriteQuad a v) := by
  unfold State.memWriteQuad
  split
  · exact inv_memWrite (inv_memWrite h _ (by omega)) _ (by omega)
  · exact inv_memWrite h v ha

/-- An aligned access of `2^k` bytes ends inside the address space. -/
theorem effective_add_le (s : State) (ra rb : GReg) {k : Nat} (hk : k ≤ 32) :
    (s.effective ra rb k).toNat + 2 ^ k ≤ 2 ^ 32 := by
  have hle : (s.effective ra rb k).toNat ≤ (s.sumAddress ra rb).toNat / 2 ^ k * 2 ^ k := by
    rw [State.effective, BitVec.toNat_shiftLeft, BitVec.toNat_ushiftRight, Nat.shiftLeft_eq, Nat.shiftRight_eq_div_pow]
    exact Nat.mod_le _ _
  have hpow : 2 ^ (32 - k) * 2 ^ k = 2 ^ 32 := by rw [← pow_add, Nat.sub_add_cancel hk]
  have hquot : (s.sumAddress ra rb).toNat / 2 ^ k + 1 ≤ 2 ^ (32 - k) :=
    Nat.div_lt_of_lt_mul (by rw [mul_comm, hpow]; exact (s.sumAddress ra rb).isLt)
  calc (s.effective ra rb k).toNat + 2 ^ k
      ≤ ((s.sumAddress ra rb).toNat / 2 ^ k + 1) * 2 ^ k := by rw [add_one_mul]; omega
    _ ≤ 2 ^ (32 - k) * 2 ^ k := Nat.mul_le_mul_right _ hquot
    _ = 2 ^ 32 := hpow

/-- A field of the control word that reads zero as the maximum lies between 1 and that bound (R112). -/
theorem orMaximum_bounds {n top bound : Nat} (hn : n ≤ bound) (htop : 1 ≤ top) (hle : top ≤ bound) :
    1 ≤ orMaximum n top ∧ orMaximum n top ≤ bound := by
  unfold orMaximum
  split <;> omega

/-- Replacing a stream keeps the invariant if the new stream is stopped or comes from a control word (R112). -/
theorem inv_setStream (h : Inv s) (k : BitVec 2) {d : Option StreamDescriptor}
    (hd : ∀ e, d = some e → ∃ addr c transient forStore, e = streamOf addr c transient forStore) :
    Inv (s.setStream k d) := by
  obtain ⟨hmem, hsorted, hbound, hpc, hstream⟩ := h
  refine ⟨hmem, hsorted, hbound, hpc, ?_⟩
  intro j e he
  by_cases hj : j = k
  · subst hj
    rw [State.getStream_setStream_same] at he
    obtain ⟨addr, c, transient, forStore, rfl⟩ := hd e he
    have hsize : (c.extractLsb' 24 5).toNat < 32 := (c.extractLsb' 24 5).isLt
    have hcount : (c.extractLsb' 16 8).toNat < 256 := (c.extractLsb' 16 8).isLt
    have hstride : (c.extractLsb' 0 16).toNat < 65536 := (c.extractLsb' 0 16).isLt
    obtain ⟨hs1, hs2⟩ := orMaximum_bounds (top := 32) (bound := 32) hsize.le (by decide) (by decide)
    obtain ⟨hc1, hc2⟩ := orMaximum_bounds (top := 256) (bound := 256) hcount.le (by decide) (by decide)
    obtain ⟨ht1, ht2⟩ :=
      orMaximum_bounds (top := 32768) (bound := 65535) (Nat.le_of_lt_succ hstride) (by decide) (by decide)
    exact ⟨hs1, hs2, hc1, hc2, ht1, ht2⟩
  · rw [State.getStream_setStream_ne _ _ _ _ hj] at he
    exact hstream j e he

theorem inv_clearStreams (h : Inv s) : Inv s.clearStreams := by
  obtain ⟨hmem, hsorted, hbound, hpc, -⟩ := h
  refine ⟨hmem, hsorted, hbound, hpc, ?_⟩
  intro k d hd
  simp [State.getStream] at hd

end

/-- Every state that an instruction can leave meets the invariant if the state before it does. -/
theorem Leaves.inv {i : Instr} {s t : State} (h : Leaves i s t) (hs : Inv s) : Inv t := by
  cases h with
  | element hk hi v => exact inv_advance (inv_memWrite hs v (effective_add_le s _ _ (by omega)))
  | quad hi v => exact inv_advance (inv_memWriteQuad hs v (effective_add_le s _ _ (by decide)))
  | stopped hi k => exact inv_advance (inv_setStream hs k (by simp))
  | stoppedAll hi => exact inv_advance (inv_clearStreams hs)
  | started hi k addr c transient forStore =>
    refine inv_advance (inv_setStream hs k fun e he => ⟨addr, c, transient, forStore, ?_⟩)
    exact (Option.some.inj he).symm
  | _ => exact inv_advance (inv_congr hs (by simp) (by simp) (by simp) (by simp))

/-- A step that answers a next state ran an instruction. -/
theorem exec_of_step {s t : State} (h : Sys2Proof.Machine.step s = .next t) : ∃ i, exec i s = .next t := by
  change s.stepOnce = .next t at h
  unfold State.stepOnce at h
  cases hf : s.fetch with
  | ok i => exact ⟨i, by simpa only [hf] using h⟩
  | error r =>
    have hr : r = .next t := by simpa only [hf] using h
    exact absurd (hr ▸ hf) (fetch_error_ne_next s t)

/-- Settles O16: a step runs one instruction, and every state that an instruction can leave meets the invariant. -/
theorem stepKeepsInvariant : Obligations.step_keeps_invariant := by
  intro s t hs h
  obtain ⟨i, hi⟩ := exec_of_step h
  exact (leaves_of_exec hi).inv hs

end Sys2Proof.Proofs
end

section
/-! PROOFS. Memory accesses (20_memory.md): the effective address as a number, which accesses there are, and that a read
returns what a write to the same bytes stored. -/

namespace Sys2Proof.Proofs
open Sys2Proof Sys2Proof.Machine

/-! Effective addresses (R51, R55). -/

/-- The sum of R51: a field `rA` of 0 stands for the number 0, and the carry out of the word is dropped. -/
theorem toNat_sumAddress (s : State) (ra rb : GReg) :
    (s.sumAddress ra rb).toNat =
      ((if ra = 0 then 0 else (s.getGpr ra).toNat) + (s.getGpr rb).toNat) % 2 ^ 32 := by
  rw [State.sumAddress, BitVec.toNat_add, State.baseOrZero]
  split <;> rfl

/-- Shifting out the low `k` bits and back in rounds the sum down to a multiple of `2^k`; no bit is lost at the top. -/
theorem toNat_effective (s : State) (ra rb : GReg) (k : Nat) :
    (s.effective ra rb k).toNat = (s.sumAddress ra rb).toNat / 2 ^ k * 2 ^ k := by
  have hlt : (s.sumAddress ra rb).toNat / 2 ^ k * 2 ^ k < 2 ^ 32 :=
    lt_of_le_of_lt (Nat.div_mul_le_self _ _) (s.sumAddress ra rb).isLt
  rw [State.effective, BitVec.toNat_shiftLeft, BitVec.toNat_ushiftRight, Nat.shiftLeft_eq, Nat.shiftRight_eq_div_pow,
    Nat.mod_eq_of_lt hlt]

/-- Every access is of `2^j` bytes at the effective address with `j` low bits dropped, where `j` is 0, 1, 2 or 4. -/
theorem exists_effective_of_accessOf {i : Instr} {s : State} {ea : Word} {n : Nat} {kind : AccessKind}
    (h : accessOf i s = some (ea, n, kind)) :
    ∃ ra rb, ∃ j ∈ [0, 1, 2, 4], ea = s.effective ra rb j ∧ n = 2 ^ j := by
  cases i with
  | lvebx _ ra rb | stvebx _ ra rb => cases h; exact ⟨ra, rb, 0, by decide, rfl, rfl⟩
  | lvehx _ ra rb | stvehx _ ra rb => cases h; exact ⟨ra, rb, 1, by decide, rfl, rfl⟩
  | lvewx _ ra rb | stvewx _ ra rb => cases h; exact ⟨ra, rb, 2, by decide, rfl, rfl⟩
  | lvx _ ra rb | lvxl _ ra rb | stvx _ ra rb | stvxl _ ra rb => cases h; exact ⟨ra, rb, 4, by decide, rfl, rfl⟩
  | _ => cases h

/-- Settles O21: every access is of `2^j` bytes at a sum rounded down to a multiple of `2^j`, which divides `2^32`. -/
theorem accessesAreAligned : Obligations.accesses_are_aligned := by
  refine ⟨fun i s ea n kind h => ?_, fun s ra rb k _ => ?_⟩
  · obtain ⟨ra, rb, j, hj, rfl, rfl⟩ := exists_effective_of_accessOf h
    have hwidth : ∀ j ∈ [0, 1, 2, 4], 2 ^ j ∈ [1, 2, 4, 16] ∧ j ≤ 32 := by decide
    obtain ⟨hmem, hle⟩ := hwidth j hj
    have haligned : (s.effective ra rb j).toNat % 2 ^ j = 0 := by rw [toNat_effective, Nat.mul_mod_left]
    exact ⟨hmem, haligned, effective_add_le s ra rb hle⟩
  · rw [toNat_effective, toNat_sumAddress]

/-! Values and their bytes (R52, R53). -/

/-- Shifting the next byte of `v` into the part of `v` above it. -/
theorem ushiftRight_shiftLeft_or_byte {w : Nat} (v : BitVec w) (b : Nat) :
    (v >>> (b + 8)) <<< 8 ||| (v.extractLsb' b 8).setWidth w = v >>> b := by
  apply BitVec.eq_of_getLsbD_eq
  intro i hi
  by_cases h8 : i < 8
  · simp [hi, h8]
  · have hpos : b + 8 + (i - 8) = b + i := by omega
    simp [hi, h8, hpos]

/-- Folding in the first `m` of the `n` bytes of `v` gives the part of `v` above the other `n - m`. -/
theorem valueOfBytes_take_bytesOfValue {w n : Nat} (hw : w = 8 * n) (v : BitVec w) {m : Nat} (hm : m ≤ n) :
    valueOfBytes w ((List.range m).map fun j => v.extractLsb' (8 * (n - 1 - j)) 8) = v >>> (8 * (n - m)) := by
  induction m with
  | zero => exact (BitVec.ushiftRight_eq_zero hw.le).symm
  | succ m ih =>
    have habove : 8 * (n - m) = 8 * (n - 1 - m) + 8 := by omega
    have hbelow : 8 * (n - (m + 1)) = 8 * (n - 1 - m) := by omega
    rw [valueOfBytes] at ih ⊢
    rw [List.range_succ, List.map_append, List.foldl_append, ih (by omega), habove, hbelow]
    exact ushiftRight_shiftLeft_or_byte v _

/-- The bytes of a value give the value back. -/
theorem valueOfBytes_bytesOfValue {w n : Nat} (hw : w = 8 * n) (v : BitVec w) :
    valueOfBytes w (bytesOfValue n v) = v := by
  rw [bytesOfValue, valueOfBytes_take_bytesOfValue hw v le_rfl]
  simp

theorem inMemoryOrder_inMemoryOrder (le : Bool) (bs : List Byte) : inMemoryOrder le (inMemoryOrder le bs) = bs := by
  cases le <;> simp [inMemoryOrder]

/-! A read after a write (R58). -/

/-- The bytes of a store read back in the order they were stored. -/
theorem readBytes_memWrite_same {w : Nat} (s : State) (a n : Nat) (v : BitVec w) :
    (s.memWrite a n v).readBytes a n = s.storedBytes n v := by
  apply List.ext_getElem
  · simp [State.readBytes, storedBytes_length]
  · intro j hj hj'
    simp [State.readBytes, State.readByte, Memory.read_writeBytes, hj']

/-- A read returns what was written to the same bytes in the same mode. -/
theorem memRead_memWrite_same {w n : Nat} (hw : w = 8 * n) (s : State) (a : Nat) (v : BitVec w) :
    (s.memWrite a n v).memRead w a n = v := by
  rw [State.memRead, readBytes_memWrite_same, State.memWrite_le, State.storedBytes, inMemoryOrder_inMemoryOrder,
    valueOfBytes_bytesOfValue hw]

/-- A read does not see a write to other bytes. -/
theorem memRead_memWrite_disjoint {w w' : Nat} (s : State) {a n b m : Nat} (v : BitVec w)
    (h : b + m ≤ a ∨ a + n ≤ b) : (s.memWrite a n v).memRead w' b m = s.memRead w' b m := by
  have hbytes : (s.memWrite a n v).readBytes b m = s.readBytes b m := by
    refine List.map_congr_left fun j hj => State.readByte_memWrite_outside s v ?_
    have hlt : j < m := List.mem_range.1 hj
    omega
  rw [State.memRead, hbytes, State.memWrite_le, State.memRead]

/-- A quadword read returns the quadword written to the same address: in little-endian mode the second doubleword
written leaves the first alone. -/
theorem memReadQuad_memWriteQuad (s : State) (a : Nat) (v : Vec) : (s.memWriteQuad a v).memReadQuad a = v := by
  rw [State.memReadQuad, State.memWriteQuad_le]
  by_cases hle : s.le = true
  · rw [State.memWriteQuad, if_pos hle, if_pos hle, memRead_memWrite_same rfl,
      memRead_memWrite_disjoint _ _ (.inl le_rfl), memRead_memWrite_same rfl]
    exact (BitVec.extractLsb'_append_extractLsb'_eq_extractLsb' (by decide)).trans BitVec.extractLsb'_eq_self
  · rw [State.memWriteQuad, if_neg hle, if_neg hle, memRead_memWrite_same rfl]

/-! A quadword load after a quadword store. -/

/-- Whether an access is inside `MemDomain` depends on the domain alone. -/
theorem accessible_congr {s t : State} (h : t.domain = s.domain) (a n : Nat) : t.accessible a n = s.accessible a n := by
  simp only [State.accessible, State.inDomain, h]

/-- An effective address depends on the general registers alone. -/
theorem effective_congr {s t : State} (h : t.gpr = s.gpr) (ra rb : GReg) (k : Nat) :
    t.effective ra rb k = s.effective ra rb k := by
  simp only [State.effective, State.sumAddress, State.baseOrZero, State.getGpr_congr h]

theorem exec_stvx {s : State} {vs : VReg} {ra rb : GReg} (h : s.vecAvailable = true)
    (ha : s.accessible (s.effective ra rb 4).toNat 16 = true) :
    exec (.stvx vs ra rb) s = .next (s.memWriteQuad (s.effective ra rb 4).toNat (s.getVr vs)).advance :=
  access_available h ha _ _

/-- A quadword load in a state `t` with the parameters and general registers of `s` reads at the address of `s`. -/
theorem exec_lvx_of_kept {s t : State} {vd : VReg} {ra rb : GReg} (h : t.vecAvailable = true)
    (hdomain : t.domain = s.domain) (hgpr : t.gpr = s.gpr)
    (ha : s.accessible (s.effective ra rb 4).toNat 16 = true) :
    exec (.lvx vd ra rb) t = .next (t.setVr vd (t.memReadQuad (s.effective ra rb 4).toNat)).advance := by
  rw [← effective_congr hgpr, ← accessible_congr hdomain] at ha
  rw [← effective_congr hgpr]
  exact access_available h ha _ _

/-- Settles O27: the store changes neither the unit's availability nor the domain nor the address, so the load
completes and reads the quadword that was stored. -/
theorem quadwordStoreThenLoad : Obligations.quadword_store_then_load := by
  intro s vs vd ra rb hvec hacc
  refine ⟨_, _, exec_stvx hvec hacc, exec_lvx_of_kept (by simp [hvec]) (by simp) (by simp) hacc, ?_⟩
  exact (State.getVr_setVr_same _ vd _).trans (memReadQuad_memWriteQuad s _ _)

end Sys2Proof.Proofs
end

section
/-! PROOFS. The decoder and the encoder are inverse to each other (30_encoding.md R82 to R93): a word is made of its
fields, each reader accepts exactly the words of its form, and each row of the opcode tables reads with the reader of
the form that the encoder writes. -/

namespace Sys2Proof.Proofs
open Sys2Proof

/-! A word is made of its fields. -/

/-- A bit, as the field of width 1. -/
theorem ofBool_getLsbD (w : Word) (k : Nat) : BitVec.ofBool (w.getLsbD k) = w.extractLsb' k 1 := by
  refine BitVec.eq_of_getLsbD_eq fun i hi => ?_
  obtain rfl : i = 0 := by omega
  simp

theorem extract_one_of_getLsbD_false {w : Word} {k : Nat} (h : w.getLsbD k = false) : w.extractLsb' k 1 = 0#1 := by
  rw [← ofBool_getLsbD, h]; rfl

section
variable {w : Word} {d a b c : BitVec 5}

theorem formX_of_fields (hp : fieldPrimary w = 31) (h0 : w.getLsbD 0 = false) :
    formX (fieldD w) (fieldA w) (fieldB w) (fieldXoX w) = w := by
  rw [formX, ← show fieldPrimary w = 31#6 from hp, ← extract_one_of_getLsbD_false h0]
  simp only [fieldPrimary, fieldD, fieldA, fieldB, fieldXoX]
  iterate 5 rw [BitVec.extractLsb'_append_extractLsb'_eq_extractLsb']
  · exact extract_all w
  all_goals rfl

theorem formStream_of_fields (hp : fieldPrimary w = 31) (h0 : w.getLsbD 0 = false) (hz : fieldStreamZero w = 0) :
    formStream (fieldFlag w) (fieldStrm w) (fieldA w) (fieldB w) (fieldXoX w) = w := by
  rw [formStream, ← show fieldPrimary w = 31#6 from hp, ← extract_one_of_getLsbD_false h0,
    ← show fieldStreamZero w = 0#2 from hz, fieldFlag, ofBool_getLsbD]
  simp only [fieldPrimary, fieldStreamZero, fieldStrm, fieldA, fieldB, fieldXoX]
  iterate 7 rw [BitVec.extractLsb'_append_extractLsb'_eq_extractLsb']
  · exact extract_all w
  all_goals rfl

theorem formVX_of_fields (hp : fieldPrimary w = 4) (hd : fieldD w = d) (ha : fieldA w = a) (hb : fieldB w = b) :
    formVX d a b (fieldXoVX w) = w := by
  rw [formVX, ← show fieldPrimary w = 4#6 from hp, ← hd, ← ha, ← hb]
  simp only [fieldPrimary, fieldD, fieldA, fieldB, fieldXoVX]
  iterate 4 rw [BitVec.extractLsb'_append_extractLsb'_eq_extractLsb']
  · exact extract_all w
  all_goals rfl

theorem formVXR_of_fields (hp : fieldPrimary w = 4) :
    formVXR (fieldD w) (fieldA w) (fieldB w) (fieldRc w) (fieldXoVXR w) = w := by
  rw [formVXR, ← show fieldPrimary w = 4#6 from hp, fieldRc, ofBool_getLsbD]
  simp only [fieldPrimary, fieldD, fieldA, fieldB, fieldXoVXR]
  iterate 5 rw [BitVec.extractLsb'_append_extractLsb'_eq_extractLsb']
  · exact extract_all w
  all_goals rfl

theorem formVA_of_fields (hp : fieldPrimary w = 4) (hc : fieldC w = c) :
    formVA (fieldD w) (fieldA w) (fieldB w) c (fieldXoVA w) = w := by
  rw [formVA, ← show fieldPrimary w = 4#6 from hp, ← hc]
  simp only [fieldPrimary, fieldD, fieldA, fieldB, fieldC, fieldXoVA]
  iterate 5 rw [BitVec.extractLsb'_append_extractLsb'_eq_extractLsb']
  · exact extract_all w
  all_goals rfl

/-- With bit 21 zero, the field of `vC` is the shift count of `vsldoi` (R86). -/
theorem fieldC_of_fieldRc_false (h : fieldRc w = false) : fieldC w = 0#1 ++ fieldShb w := by
  rw [← extract_one_of_getLsbD_false h, fieldC, fieldShb, BitVec.extractLsb'_append_extractLsb'_eq_extractLsb']
  rfl

end

/-! The fields of a built word that the laws of the encoder do not give. -/

section
variable (d a b c : BitVec 5)

theorem formX_bit0 (xo : BitVec 10) : (formX d a b xo).getLsbD 0 = false := by
  rw [formX, BitVec.getLsbD_append]; rfl

theorem formVX_bit5 (xo : BitVec 11) : (formVX d a b xo).getLsbD 5 = xo.getLsbD 5 := by
  rw [formVX, BitVec.getLsbD_append]; rfl

theorem formVXR_bit5 (rc : Bool) (xo : BitVec 10) : (formVXR d a b rc xo).getLsbD 5 = xo.getLsbD 5 := by
  rw [formVXR, BitVec.getLsbD_append]; rfl

theorem formVXR_Rc (rc : Bool) (xo : BitVec 10) : fieldRc (formVXR d a b rc xo) = rc := by
  rw [fieldRc, formVXR, BitVec.getLsbD_append, BitVec.getLsbD_append, BitVec.getLsbD_ofBool]; rfl

/-- Read as the VX form, the extended opcode of the VXR form has `Rc` as its first bit. -/
theorem formVXR_xoVX (rc : Bool) (xo : BitVec 10) : fieldXoVX (formVXR d a b rc xo) = BitVec.ofBool rc ++ xo := by
  rw [fieldXoVX, formVXR, BitVec.append_assoc, BitVec.extractLsb'_cast, extract_append_low _ _ (by decide)]
  exact extract_all _

theorem formVA_bit5 (xo : BitVec 6) : (formVA d a b c xo).getLsbD 5 = xo.getLsbD 5 := by
  rw [formVA, BitVec.getLsbD_append]; rfl

theorem formVA_Rc (shb : BitVec 4) (xo : BitVec 6) : fieldRc (formVA d a b (0#1 ++ shb) xo) = false := by
  rw [fieldRc, formVA, BitVec.getLsbD_append, BitVec.getLsbD_append, BitVec.getLsbD_append]; rfl

theorem formVA_Shb (shb : BitVec 4) (xo : BitVec 6) : fieldShb (formVA d a b (0#1 ++ shb) xo) = shb := by
  unfold fieldShb formVA
  rw [extract_append_high _ _ (by decide), extract_append_low _ _ (by decide), extract_append_low _ _ (by decide)]
  exact extract_all shb

end

section
variable (flag : Bool) (strm : BitVec 2) (a b : BitVec 5) (xo : BitVec 10)

theorem formStream_bit0 : (formStream flag strm a b xo).getLsbD 0 = false := by
  rw [formStream, BitVec.getLsbD_append]; rfl

theorem formStream_flag : fieldFlag (formStream flag strm a b xo) = flag := by
  simp only [fieldFlag, formStream, BitVec.getLsbD_append, BitVec.getLsbD_ofBool]; rfl

theorem formStream_zero : fieldStreamZero (formStream flag strm a b xo) = 0 := by
  unfold fieldStreamZero formStream
  rw [extract_append_high _ _ (by decide), extract_append_high _ _ (by decide), extract_append_high _ _ (by decide),
    extract_append_high _ _ (by decide), extract_append_high _ _ (by decide), extract_append_low _ _ (by decide)]
  exact extract_all _

theorem formStream_strm : fieldStrm (formStream flag strm a b xo) = strm := by
  unfold fieldStrm formStream
  rw [extract_append_high _ _ (by decide), extract_append_high _ _ (by decide), extract_append_high _ _ (by decide),
    extract_append_high _ _ (by decide), extract_append_low _ _ (by decide)]
  exact extract_all _

theorem formStream_A : fieldA (formStream flag strm a b xo) = a := by
  unfold fieldA formStream
  rw [extract_append_high _ _ (by decide), extract_append_high _ _ (by decide), extract_append_high _ _ (by decide),
    extract_append_low _ _ (by decide)]
  exact extract_all _

theorem formStream_B : fieldB (formStream flag strm a b xo) = b := by
  unfold fieldB formStream
  rw [extract_append_high _ _ (by decide), extract_append_high _ _ (by decide), extract_append_low _ _ (by decide)]
  exact extract_all _

theorem formStream_xo : fieldXoX (formStream flag strm a b xo) = xo := by
  unfold fieldXoX formStream
  rw [extract_append_high _ _ (by decide), extract_append_low _ _ (by decide)]
  exact extract_all _

end

/-! What the checks and the decoder answer. -/

theorem checkOperands_eq_ok {i j : Instr} : checkOperands i = .ok j ↔ i = j ∧ i.wf = true := by
  by_cases h : i.wf = true <;> simp [checkOperands, h]

theorem checkReserved_eq_ok {zero : Bool} {i j : Instr} :
    checkReserved zero i = .ok j ↔ zero = true ∧ i = j ∧ i.wf = true := by
  cases zero <;> simp [checkReserved, checkOperands_eq_ok]

theorem orUnassigned_eq_ok {r : Option (Except DecodeReject Instr)} {i : Instr} :
    orUnassigned r = .ok i ↔ r = some (.ok i) := by
  cases r <;> simp [orUnassigned]

/-- A word decodes where one of the four tables has a row for it whose reader accepts it; the VXR table is consulted
only where the VX table has no row (R88). -/
theorem decode_eq_ok {w : Word} {i : Instr} : decode w = .ok i ↔
    (fieldPrimary w = 31 ∧ lookupX (fieldXoX w).toNat w = some (.ok i)) ∨
    (fieldPrimary w = 4 ∧
      ((w.getLsbD 5 = true ∧ lookupVA (fieldXoVA w).toNat w = some (.ok i)) ∨
        (w.getLsbD 5 = false ∧
          (lookupVX (fieldXoVX w).toNat w = some (.ok i) ∨
            (lookupVX (fieldXoVX w).toNat w = none ∧ lookupVXR (fieldXoVXR w).toNat w = some (.ok i)))))) := by
  unfold decode
  by_cases h31 : fieldPrimary w = 31
  · simp [h31, orUnassigned_eq_ok]
  by_cases h4 : fieldPrimary w = 4
  · cases w.getLsbD 5 <;> cases lookupVX (fieldXoVX w).toNat w <;> simp [h4, orUnassigned_eq_ok]
  · rw [if_neg h31, if_neg h4]
    simp only [h31, h4, false_and, or_self, reduceCtorEq]

/-! Decoding a built word: the table's row for the extended opcode reads it. -/

section
variable {d a b c : BitVec 5} {r : Except DecodeReject Instr} {i : Instr}

theorem decode_formX {xo : BitVec 10} (hrow : lookupX xo.toNat (formX d a b xo) = some r) (hr : r = .ok i) :
    decode (formX d a b xo) = .ok i :=
  decode_eq_ok.2 (.inl ⟨formX_primary d a b xo, by rw [formX_xo, hrow, hr]⟩)

theorem decode_formStream {flag : Bool} {strm : BitVec 2} {xo : BitVec 10}
    (hrow : lookupX xo.toNat (formStream flag strm a b xo) = some r) (hr : r = .ok i) :
    decode (formStream flag strm a b xo) = .ok i :=
  decode_eq_ok.2 (.inl ⟨formStream_primary flag strm a b xo, by rw [formStream_xo, hrow, hr]⟩)

theorem decode_formVX {xo : BitVec 11} (hbit : xo.getLsbD 5 = false)
    (hrow : lookupVX xo.toNat (formVX d a b xo) = some r) (hr : r = .ok i) : decode (formVX d a b xo) = .ok i :=
  decode_eq_ok.2 (.inr ⟨formVX_primary d a b xo,
    .inr ⟨(formVX_bit5 d a b xo).trans hbit, .inl (by rw [formVX_xo, hrow, hr])⟩⟩)

theorem decode_formVXR {rc : Bool} {xo : BitVec 10} (hbit : xo.getLsbD 5 = false)
    (hnone : lookupVX (BitVec.ofBool rc ++ xo).toNat (formVXR d a b rc xo) = none)
    (hrow : lookupVXR xo.toNat (formVXR d a b rc xo) = some r) (hr : r = .ok i) :
    decode (formVXR d a b rc xo) = .ok i :=
  decode_eq_ok.2 (.inr ⟨formVXR_primary d a b rc xo,
    .inr ⟨(formVXR_bit5 d a b rc xo).trans hbit,
      .inr ⟨by rw [formVXR_xoVX, hnone], by rw [formVXR_xo, hrow, hr]⟩⟩⟩)

theorem decode_formVA {xo : BitVec 6} (hbit : xo.getLsbD 5 = true)
    (hrow : lookupVA xo.toNat (formVA d a b c xo) = some r) (hr : r = .ok i) : decode (formVA d a b c xo) = .ok i :=
  decode_eq_ok.2 (.inr ⟨formVA_primary d a b c xo,
    .inl ⟨(formVA_bit5 d a b c xo).trans hbit, by rw [formVA_xo, hrow, hr]⟩⟩)

end

/-! Each reader gives back the operands of a word of its form. -/

section
variable {d a b c u : BitVec 5}

theorem readX_formX {k : VReg → GReg → GReg → Instr} {xo : BitVec 10} (hwf : (k d a b).wf = true) :
    readX k (formX d a b xo) = .ok (k d a b) := by
  rw [readX, formX_D, formX_A, formX_B, formX_bit0]
  exact checkReserved_eq_ok.2 ⟨rfl, rfl, hwf⟩

theorem readStream_formStream {k : GReg → GReg → BitVec 2 → Bool → Instr} {strm : BitVec 2} {flag : Bool}
    {xo : BitVec 10} (hwf : (k a b strm flag).wf = true) :
    readStream k (formStream flag strm a b xo) = .ok (k a b strm flag) := by
  rw [readStream, formStream_A, formStream_B, formStream_strm, formStream_flag, formStream_zero, formStream_bit0]
  exact checkReserved_eq_ok.2 ⟨rfl, rfl, hwf⟩

theorem readDss_formStream {k : BitVec 2 → Bool → Instr} {strm : BitVec 2} {flag : Bool} {xo : BitVec 10}
    (hwf : (k strm flag).wf = true) : readDss k (formStream flag strm 0 0 xo) = .ok (k strm flag) := by
  rw [readDss, formStream_A, formStream_B, formStream_strm, formStream_flag, formStream_zero, formStream_bit0]
  exact checkReserved_eq_ok.2 ⟨rfl, rfl, hwf⟩

theorem readVx_formVX {k : VReg → VReg → VReg → Instr} {xo : BitVec 11} (hwf : (k d a b).wf = true) :
    readVx k (formVX d a b xo) = .ok (k d a b) := by
  rw [readVx, formVX_D, formVX_A, formVX_B]
  exact checkOperands_eq_ok.2 ⟨rfl, hwf⟩

theorem readDB_formVX {k : VReg → VReg → Instr} {xo : BitVec 11} (hwf : (k d b).wf = true) :
    readDB k (formVX d 0 b xo) = .ok (k d b) := by
  rw [readDB, formVX_D, formVX_A, formVX_B]
  exact checkReserved_eq_ok.2 ⟨rfl, rfl, hwf⟩

theorem readUimm_formVX {k : VReg → VReg → BitVec 5 → Instr} {xo : BitVec 11} (hwf : (k d b u).wf = true) :
    readUimm k (formVX d u b xo) = .ok (k d b u) := by
  rw [readUimm, formVX_D, formVX_A, formVX_B]
  exact checkOperands_eq_ok.2 ⟨rfl, hwf⟩

theorem readSimm_formVX {k : VReg → BitVec 5 → Instr} {xo : BitVec 11} (hwf : (k d u).wf = true) :
    readSimm k (formVX d u 0 xo) = .ok (k d u) := by
  rw [readSimm, formVX_D, formVX_A, formVX_B]
  exact checkReserved_eq_ok.2 ⟨rfl, rfl, hwf⟩

theorem readOnlyD_formVX {k : VReg → Instr} {xo : BitVec 11} (hwf : (k d).wf = true) :
    readOnlyD k (formVX d 0 0 xo) = .ok (k d) := by
  rw [readOnlyD, formVX_D, formVX_A, formVX_B]
  exact checkReserved_eq_ok.2 ⟨rfl, rfl, hwf⟩

theorem readOnlyB_formVX {k : VReg → Instr} {xo : BitVec 11} (hwf : (k b).wf = true) :
    readOnlyB k (formVX 0 0 b xo) = .ok (k b) := by
  rw [readOnlyB, formVX_D, formVX_A, formVX_B]
  exact checkReserved_eq_ok.2 ⟨rfl, rfl, hwf⟩

theorem readVxr_formVXR {k : VReg → VReg → VReg → Bool → Instr} {rc : Bool} {xo : BitVec 10}
    (hwf : (k d a b rc).wf = true) : readVxr k (formVXR d a b rc xo) = .ok (k d a b rc) := by
  rw [readVxr, formVXR_D, formVXR_A, formVXR_B, formVXR_Rc]
  exact checkOperands_eq_ok.2 ⟨rfl, hwf⟩

theorem readVa_formVA {k : VReg → VReg → VReg → VReg → Instr} {xo : BitVec 6} (hwf : (k d a b c).wf = true) :
    readVa k (formVA d a b c xo) = .ok (k d a b c) := by
  rw [readVa, formVA_D, formVA_A, formVA_B, formVA_C]
  exact checkOperands_eq_ok.2 ⟨rfl, hwf⟩

theorem readAcb_formVA {k : VReg → VReg → VReg → VReg → Instr} {xo : BitVec 6} (hwf : (k d a c b).wf = true) :
    readAcb k (formVA d a b c xo) = .ok (k d a c b) := by
  rw [readAcb, formVA_D, formVA_A, formVA_B, formVA_C]
  exact checkOperands_eq_ok.2 ⟨rfl, hwf⟩

theorem readShb_formVA {k : VReg → VReg → VReg → BitVec 4 → Instr} {shb : BitVec 4} {xo : BitVec 6}
    (hwf : (k d a b shb).wf = true) : readShb k (formVA d a b (0#1 ++ shb) xo) = .ok (k d a b shb) := by
  rw [readShb, formVA_D, formVA_A, formVA_B, formVA_Rc, formVA_Shb]
  exact checkReserved_eq_ok.2 ⟨rfl, rfl, hwf⟩

end

/-- Settles O1, by cases over the instructions, grouped by the form of their words: the row that the decoder finds is
the one with the instruction's own reader, which gives the operands back. -/
theorem decodeOfEncode : Obligations.decode_of_encode := by
  intro i hwf
  cases i with
  | lvebx d a b | lvehx d a b | lvewx d a b | lvsl d a b | lvsr d a b | lvx d a b | lvxl d a b | stvebx d a b
  | stvehx d a b | stvewx d a b | stvx d a b | stvxl d a b =>
    exact decode_formX rfl (readX_formX hwf)
  | dst a b strm flag | dstst a b strm flag =>
    exact decode_formStream rfl (readStream_formStream hwf)
  | dss strm flag =>
    exact decode_formStream rfl (readDss_formStream hwf)
  | vaddcuw d a b | vaddsbs d a b | vaddshs d a b | vaddsws d a b | vaddubm d a b | vaddubs d a b | vadduhm d a b
  | vadduhs d a b | vadduwm d a b | vadduws d a b | vsubcuw d a b | vsubsbs d a b | vsubshs d a b | vsubsws d a b
  | vsububm d a b | vsububs d a b | vsubuhm d a b | vsubuhs d a b | vsubuwm d a b | vsubuws d a b | vavgsb d a b
  | vavgsh d a b | vavgsw d a b | vavgub d a b | vavguh d a b | vavguw d a b | vmaxsb d a b | vmaxsh d a b
  | vmaxsw d a b | vmaxub d a b | vmaxuh d a b | vmaxuw d a b | vminsb d a b | vminsh d a b | vminsw d a b
  | vminub d a b | vminuh d a b | vminuw d a b | vmulesb d a b | vmulesh d a b | vmuleub d a b | vmuleuh d a b
  | vmulosb d a b | vmulosh d a b | vmuloub d a b | vmulouh d a b | vsumsws d a b | vsum2sws d a b | vsum4sbs d a b
  | vsum4shs d a b | vsum4ubs d a b | vand d a b | vandc d a b | vnor d a b | vor d a b | vxor d a b | vrlb d a b
  | vrlh d a b | vrlw d a b | vsl d a b | vslb d a b | vslh d a b | vslo d a b | vslw d a b | vsr d a b | vsrab d a b
  | vsrah d a b | vsraw d a b | vsrb d a b | vsrh d a b | vsro d a b | vsrw d a b | vmrghb d a b | vmrghh d a b
  | vmrghw d a b | vmrglb d a b | vmrglh d a b | vmrglw d a b | vpkpx d a b | vpkshss d a b | vpkshus d a b
  | vpkswss d a b | vpkswus d a b | vpkuhum d a b | vpkuhus d a b | vpkuwum d a b | vpkuwus d a b | vaddfp d a b
  | vsubfp d a b | vmaxfp d a b | vminfp d a b =>
    exact decode_formVX rfl rfl (readVx_formVX hwf)
  | vupkhpx d b | vupkhsb d b | vupkhsh d b | vupklpx d b | vupklsb d b | vupklsh d b | vrfim d b | vrfin d b
  | vrfip d b | vrfiz d b | vexptefp d b | vlogefp d b | vrefp d b | vrsqrtefp d b =>
    exact decode_formVX rfl rfl (readDB_formVX hwf)
  | vspltb d b u | vsplth d b u | vspltw d b u | vcfsx d b u | vcfux d b u | vctsxs d b u | vctuxs d b u =>
    exact decode_formVX rfl rfl (readUimm_formVX hwf)
  | vspltisb d u | vspltish d u | vspltisw d u =>
    exact decode_formVX rfl rfl (readSimm_formVX hwf)
  | mfvscr d =>
    exact decode_formVX rfl rfl (readOnlyD_formVX hwf)
  | mtvscr b =>
    exact decode_formVX rfl rfl (readOnlyB_formVX hwf)
  | vcmpequb d a b rc | vcmpequh d a b rc | vcmpequw d a b rc | vcmpgtsb d a b rc | vcmpgtsh d a b rc
  | vcmpgtsw d a b rc | vcmpgtub d a b rc | vcmpgtuh d a b rc | vcmpgtuw d a b rc | vcmpbfp d a b rc
  | vcmpeqfp d a b rc | vcmpgefp d a b rc | vcmpgtfp d a b rc =>
    exact decode_formVXR rfl (by cases rc <;> rfl) rfl (readVxr_formVXR hwf)
  | vmhaddshs d a b c | vmhraddshs d a b c | vmladduhm d a b c | vmsummbm d a b c | vmsumshm d a b c
  | vmsumshs d a b c | vmsumubm d a b c | vmsumuhm d a b c | vmsumuhs d a b c | vsel d a b c | vperm d a b c =>
    exact decode_formVA rfl rfl (readVa_formVA hwf)
  | vmaddfp d a c b | vnmsubfp d a c b =>
    exact decode_formVA rfl rfl (readAcb_formVA hwf)
  | vsldoi d a b shb =>
    exact decode_formVA rfl rfl (readShb_formVA hwf)

/-! The rows of the opcode tables: what a row reads with which reader, and that the encoder writes the form of that
reader with the row's extended opcode. -/

section
variable {w : Word} {i : Instr} {r : Except DecodeReject Instr}

/-- The rows of the X-form table with the extended opcode `xo`, applied to `w` (R89). -/
inductive RowX (xo : BitVec 10) (w : Word) : Except DecodeReject Instr → Prop where
  | x (k) (h : ∀ d a b, encode (k d a b) = formX d a b xo) : RowX xo w (readX k w)
  | stream (k) (h : ∀ a b strm flag, encode (k a b strm flag) = formStream flag strm a b xo) :
    RowX xo w (readStream k w)
  | dss (k) (h : ∀ strm flag, encode (k strm flag) = formStream flag strm 0 0 xo) : RowX xo w (readDss k w)

/-- The rows of the VX-form table (R90). -/
inductive RowVX (xo : BitVec 11) (w : Word) : Except DecodeReject Instr → Prop where
  | vx (k) (h : ∀ d a b, encode (k d a b) = formVX d a b xo) : RowVX xo w (readVx k w)
  | db (k) (h : ∀ d b, encode (k d b) = formVX d 0 b xo) : RowVX xo w (readDB k w)
  | uimm (k) (h : ∀ d b u, encode (k d b u) = formVX d u b xo) : RowVX xo w (readUimm k w)
  | simm (k) (h : ∀ d u, encode (k d u) = formVX d u 0 xo) : RowVX xo w (readSimm k w)
  | onlyD (k) (h : ∀ d, encode (k d) = formVX d 0 0 xo) : RowVX xo w (readOnlyD k w)
  | onlyB (k) (h : ∀ b, encode (k b) = formVX 0 0 b xo) : RowVX xo w (readOnlyB k w)

/-- The rows of the VXR-form table (R91). -/
inductive RowVXR (xo : BitVec 10) (w : Word) : Except DecodeReject Instr → Prop where
  | vxr (k) (h : ∀ d a b rc, encode (k d a b rc) = formVXR d a b rc xo) : RowVXR xo w (readVxr k w)

/-- The rows of the VA-form table (R92). -/
inductive RowVA (xo : BitVec 6) (w : Word) : Except DecodeReject Instr → Prop where
  | va (k) (h : ∀ d a b c, encode (k d a b c) = formVA d a b c xo) : RowVA xo w (readVa k w)
  | acb (k) (h : ∀ d a b c, encode (k d a c b) = formVA d a b c xo) : RowVA xo w (readAcb k w)
  | shb (k) (h : ∀ d a b shb, encode (k d a b shb) = formVA d a b (0#1 ++ shb) xo) : RowVA xo w (readShb k w)

/-! In each table the reader of a row names the constructor (reducible transparency keeps the readers apart), and the
encoder's arm is the equation it asks for. -/

theorem rowX_of_lookupX {n : Nat} (h : lookupX n w = some r) : RowX (BitVec.ofNat 10 n) w r := by
  unfold lookupX at h
  split at h <;> cases h
  all_goals (with_reducible constructor); intros; rfl

theorem rowVX_of_lookupVX {n : Nat} (h : lookupVX n w = some r) : RowVX (BitVec.ofNat 11 n) w r := by
  unfold lookupVX at h
  split at h <;> cases h
  all_goals (with_reducible constructor); intros; rfl

theorem rowVXR_of_lookupVXR {n : Nat} (h : lookupVXR n w = some r) : RowVXR (BitVec.ofNat 10 n) w r := by
  unfold lookupVXR at h
  split at h <;> cases h
  all_goals (with_reducible constructor); intros; rfl

theorem rowVA_of_lookupVA {n : Nat} (h : lookupVA n w = some r) : RowVA (BitVec.ofNat 6 n) w r := by
  unfold lookupVA at h
  split at h <;> cases h
  all_goals (with_reducible constructor); intros; rfl

/-! What a row accepts is the word that the encoder builds from its fields. -/

theorem RowX.encode_of_eq_ok (hrow : RowX (fieldXoX w) w r) (hp : fieldPrimary w = 31) (hr : r = .ok i) :
    encode i = w ∧ i.wf = true := by
  cases hrow with
  | x k henc =>
    obtain ⟨hzero, rfl, hwf⟩ := checkReserved_eq_ok.1 hr
    have h0 : w.getLsbD 0 = false := by simpa using hzero
    exact ⟨(henc _ _ _).trans (formX_of_fields hp h0), hwf⟩
  | stream k henc =>
    obtain ⟨hzero, rfl, hwf⟩ := checkReserved_eq_ok.1 hr
    obtain ⟨h0, hz⟩ : w.getLsbD 0 = false ∧ fieldStreamZero w = 0 := by simpa using hzero
    exact ⟨(henc _ _ _ _).trans (formStream_of_fields hp h0 hz), hwf⟩
  | dss k henc =>
    obtain ⟨hzero, rfl, hwf⟩ := checkReserved_eq_ok.1 hr
    obtain ⟨⟨⟨h0, hz⟩, ha⟩, hb⟩ : ((w.getLsbD 0 = false ∧ fieldStreamZero w = 0) ∧ fieldA w = 0) ∧ fieldB w = 0 := by
      simpa using hzero
    refine ⟨?_, hwf⟩
    calc encode (k (fieldStrm w) (fieldFlag w))
        = formStream (fieldFlag w) (fieldStrm w) 0 0 (fieldXoX w) := henc _ _
      _ = formStream (fieldFlag w) (fieldStrm w) (fieldA w) (fieldB w) (fieldXoX w) := by rw [ha, hb]
      _ = w := formStream_of_fields hp h0 hz

theorem RowVX.encode_of_eq_ok (hrow : RowVX (fieldXoVX w) w r) (hp : fieldPrimary w = 4) (hr : r = .ok i) :
    encode i = w ∧ i.wf = true := by
  cases hrow with
  | vx k henc | uimm k henc =>
    obtain ⟨rfl, hwf⟩ := checkOperands_eq_ok.1 hr
    exact ⟨(henc _ _ _).trans (formVX_of_fields hp rfl rfl rfl), hwf⟩
  | db k henc =>
    obtain ⟨hzero, rfl, hwf⟩ := checkReserved_eq_ok.1 hr
    exact ⟨(henc _ _).trans (formVX_of_fields hp rfl (eq_of_beq hzero) rfl), hwf⟩
  | simm k henc =>
    obtain ⟨hzero, rfl, hwf⟩ := checkReserved_eq_ok.1 hr
    exact ⟨(henc _ _).trans (formVX_of_fields hp rfl rfl (eq_of_beq hzero)), hwf⟩
  | onlyD k henc =>
    obtain ⟨hzero, rfl, hwf⟩ := checkReserved_eq_ok.1 hr
    obtain ⟨ha, hb⟩ : fieldA w = 0 ∧ fieldB w = 0 := by simpa using hzero
    exact ⟨(henc _).trans (formVX_of_fields hp rfl ha hb), hwf⟩
  | onlyB k henc =>
    obtain ⟨hzero, rfl, hwf⟩ := checkReserved_eq_ok.1 hr
    obtain ⟨hd, ha⟩ : fieldD w = 0 ∧ fieldA w = 0 := by simpa using hzero
    exact ⟨(henc _).trans (formVX_of_fields hp hd ha rfl), hwf⟩

theorem RowVXR.encode_of_eq_ok (hrow : RowVXR (fieldXoVXR w) w r) (hp : fieldPrimary w = 4) (hr : r = .ok i) :
    encode i = w ∧ i.wf = true := by
  cases hrow with
  | vxr k henc =>
    obtain ⟨rfl, hwf⟩ := checkOperands_eq_ok.1 hr
    exact ⟨(henc _ _ _ _).trans (formVXR_of_fields hp), hwf⟩

theorem RowVA.encode_of_eq_ok (hrow : RowVA (fieldXoVA w) w r) (hp : fieldPrimary w = 4) (hr : r = .ok i) :
    encode i = w ∧ i.wf = true := by
  cases hrow with
  | va k henc | acb k henc =>
    obtain ⟨rfl, hwf⟩ := checkOperands_eq_ok.1 hr
    exact ⟨(henc _ _ _ _).trans (formVA_of_fields hp rfl), hwf⟩
  | shb k henc =>
    obtain ⟨hzero, rfl, hwf⟩ := checkReserved_eq_ok.1 hr
    have hrc : fieldRc w = false := by simpa using hzero
    exact ⟨(henc _ _ _ _).trans (formVA_of_fields hp (fieldC_of_fieldRc_false hrc)), hwf⟩

end

/-- Settles O2: the table that the decoder reads has a row for the word, and what the row accepts is the encoding of the
instruction it answers. -/
theorem encodeOfDecode : Obligations.encode_of_decode := by
  intro w i h
  obtain ⟨hp, hx⟩ | ⟨hp, ⟨-, hva⟩ | ⟨-, hvx | ⟨-, hvxr⟩⟩⟩ := decode_eq_ok.1 h
  · exact RowX.encode_of_eq_ok (by simpa using rowX_of_lookupX hx) hp rfl
  · exact RowVA.encode_of_eq_ok (by simpa using rowVA_of_lookupVA hva) hp rfl
  · exact RowVX.encode_of_eq_ok (by simpa using rowVX_of_lookupVX hvx) hp rfl
  · exact RowVXR.encode_of_eq_ok (by simpa using rowVXR_of_lookupVXR hvxr) hp rfl

/-- The decoder is the inverse of the encoder on well-formed instructions. -/
theorem decode_eq_ok_iff_encode (w : Word) (i : Instr) : decode w = .ok i ↔ encode i = w ∧ i.wf = true := by
  refine ⟨encodeOfDecode w i, ?_⟩
  rintro ⟨rfl, hwf⟩
  exact decodeOfEncode i hwf

/-- Settles O3: each word is the encoding of its instruction, which is well formed. -/
theorem decodeExampleWords : Obligations.decode_example_words := by
  simp only [Obligations.decode_example_words, decode_eq_ok_iff_encode]
  decide

end Sys2Proof.Proofs
end

section
/-! PROOFS. The data-stream instructions (40_data_stream.md R110 to R113): the state that each leaves is the old one with
other streams, past the instruction; the frame holds whatever the streams are, and the streams are read off the
update. -/

namespace Sys2Proof.Proofs
open Sys2Proof Sys2Proof.Machine

/-! The states that the three instructions leave. -/

theorem exec_dss (strm : BitVec 2) (a : Bool) (s : State) :
    exec (.dss strm a) s = .next (if a then s.clearStreams else s.setStream strm none).advance := rfl

/-- `dst` and `dstst` differ in the flag `forStore` alone; R93 asks for `rA` other than 0. -/
theorem exec_startStream {ra : GReg} (hra : ra ≠ 0) (rb : GReg) (strm : BitVec 2) (tr fs : Bool) (s : State) :
    exec (if fs then .dstst ra rb strm tr else .dst ra rb strm tr) s =
      .next (s.setStream strm (some (streamOf (s.getGpr ra) (s.getGpr rb) tr fs))).advance := by
  have hallowed (r : Result) : whenOperandsAllowed (wfStream ra) r = r := by
    rw [show wfStream ra = true from decide_eq_true hra, whenOperandsAllowed_ok]
  cases fs with
  | false => exact hallowed _
  | true => exact hallowed _

/-! What else they leave: everything but the streams and `pc`. -/

/-- The frame of a data-stream instruction: all but the streams is as before, and `pc` is past the instruction. -/
def StreamFrame (s t : State) : Prop :=
  VrKept s t ∧ GprKept s t ∧ StatusKept s t ∧ MemoryKept s t ∧ ParametersKept s t ∧
    t.fresh = s.fresh ∧ t.stored = s.stored ∧ t.pc = s.pc + 4

theorem streamFrame_of_streams (s : State) (v : Vector (Option StreamDescriptor) 4) :
    StreamFrame s { s with stream := v }.advance :=
  ⟨State.getVr_congr rfl, State.getGpr_congr rfl, ⟨rfl, rfl, rfl⟩, State.readByte_congr rfl, ⟨rfl, rfl, rfl, rfl⟩,
    rfl, rfl, rfl⟩

/-! The streams. -/

@[simp] theorem getStream_advance (s : State) (k : BitVec 2) : s.advance.getStream k = s.getStream k :=
  State.getStream_congr (by simp) k

theorem getStream_setStream (s : State) (k j : BitVec 2) (d : Option StreamDescriptor) :
    (s.setStream k d).getStream j = if j = k then d else s.getStream j := by
  split
  case isTrue h => rw [h, State.getStream_setStream_same]
  case isFalse h => exact State.getStream_setStream_ne s k j d h

theorem getStream_clearStreams (s : State) (k : BitVec 2) : s.clearStreams.getStream k = none := by
  simp [State.getStream]

/-- A field of the control word is 0 exactly where its number is, and then it means the maximum (R112). -/
theorem orMaximum_toNat {n : Nat} (x : BitVec n) (top : Nat) :
    orMaximum x.toNat top = if x = 0 then top else x.toNat := by
  simp [orMaximum, BitVec.toNat_eq]

/-- Settles O20: `dst` and `dstst` set one stream to the descriptor of the control word, `dss` sets one to `none` or
clears all, and neither update touches another field of the state. -/
theorem streamStartAndStop : Obligations.stream_start_and_stop := by
  constructor
  · intro s ra rb strm tr fs hra
    refine ⟨_, exec_startStream hra rb strm tr fs s, ⟨streamOf (s.getGpr ra) (s.getGpr rb) tr fs, ?_, rfl, rfl, rfl,
      orMaximum_toNat _ 32, orMaximum_toNat _ 256, orMaximum_toNat _ 32768⟩, fun k hk => ?_,
      streamFrame_of_streams s _⟩
    · rw [getStream_advance, State.getStream_setStream_same]
    · rw [getStream_advance, State.getStream_setStream_ne s strm k _ hk]
  · intro s strm a
    cases a with
    | false => exact ⟨_, exec_dss strm false s, by simp [getStream_setStream], streamFrame_of_streams s _⟩
    | true => exact ⟨_, exec_dss strm true s, by simp [getStream_clearStreams], streamFrame_of_streams s _⟩

end Sys2Proof.Proofs
end

section
/-! PROOFS. The vector loads and stores and the alignment vectors (41_load_store.md). All the byte placements rest on
one notion: the bit of a value at which the byte starts that memory holds at a given offset, in either endian mode. A
read and a write are said in its terms, then an element access is placed in its quadword. -/

namespace Sys2Proof.Proofs
open Sys2Proof Sys2Proof.Machine

/-! Where memory's bytes stand in a value and in the elements of a register. -/

/-- The lowest bit, in a value of `n` bytes, of the byte that memory holds at offset `j` (R52, R53). -/
def byteBit (le : Bool) (n j : Nat) : Nat := if le then 8 * j else 8 * (n - 1 - j)

@[simp] theorem byteBit_big (n j : Nat) : byteBit false n j = 8 * (n - 1 - j) := rfl

@[simp] theorem byteBit_little (n j : Nat) : byteBit true n j = 8 * j := rfl

theorem byteBit_add_le (le : Bool) {n j : Nat} (hj : j < n) : byteBit le n j + 8 ≤ 8 * n := by
  cases le <;> simp <;> omega

/-- The index of the `2^k`-byte element of a register that the byte at offset `m` of its quadword belongs to (R53). -/
def elementOfByte (le : Bool) (k m : Nat) : Nat := if le then 16 / 2 ^ k - 1 - m / 2 ^ k else m / 2 ^ k

/-- The byte of a register that a quadword access moves to or from offset `j`: mirrored in little-endian mode. -/
theorem elem_byte_eq_extractLsb' (x : Vec) (le : Bool) {j : Nat} (hj : j < 16) :
    elem 8 x (if le then 15 - j else j) = x.extractLsb' (byteBit le 16 j) 8 := by
  have hbit : 128 - 8 * ((if le then 15 - j else j) + 1) = byteBit le 16 j := by
    cases le <;> simp <;> omega
  rw [elem, hbit]

theorem quadOffset_eq_mod (ea : Word) : quadOffset ea = ea.toNat % 16 := by
  rw [quadOffset, BitVec.extractLsb'_toNat, Nat.shiftRight_zero]

theorem elementIndex_eq_elementOfByte (s : State) (ea : Word) (k : Nat) :
    s.elementIndex ea k = elementOfByte s.le k (ea.toNat % 16) := by
  show elementOfByte s.le k (quadOffset ea) = _
  rw [quadOffset_eq_mod]

/-! An element access moves 1, 2 or 4 bytes; for each of these widths the places are linear arithmetic. -/

theorem elementOfByte_lt (le : Bool) {k m : Nat} (hk : k ≤ 2) (hm : m < 16) :
    elementOfByte le k m < 128 / (8 * 2 ^ k) := by
  unfold elementOfByte
  interval_cases k <;> cases le <;> simp <;> omega

/-- The bytes of one element are the `2^k` bytes from its aligned offset on. -/
theorem elementOfByte_eq_iff (le : Bool) {k m o : Nat} (hk : k ≤ 2) (hm : m < 16) (ho : o < 16) (ha : o % 2 ^ k = 0) :
    elementOfByte le k m = elementOfByte le k o ↔ o ≤ m ∧ m < o + 2 ^ k := by
  unfold elementOfByte
  interval_cases k <;> cases le <;> simp at ha ⊢ <;> omega

theorem extractLsb'_extractLsb'_of_add_le {w start len lo n : Nat} (x : BitVec w) (h : lo + n ≤ len) :
    (x.extractLsb' start len).extractLsb' lo n = x.extractLsb' (start + lo) n := by
  apply BitVec.eq_of_getLsbD_eq
  intro i hi
  have hin : lo + i < len := by omega
  simp [hi, hin, Nat.add_assoc]

/-- The byte at offset `m` of a quadword, found in the element that it belongs to. -/
theorem elem_elementOfByte_extractLsb' (x : Vec) (le : Bool) {k m : Nat} (hk : k ≤ 2) (hm : m < 16) :
    (elem (8 * 2 ^ k) x (elementOfByte le k m)).extractLsb' (byteBit le (2 ^ k) (m % 2 ^ k)) 8 =
      x.extractLsb' (byteBit le 16 m) 8 := by
  have hin : byteBit le (2 ^ k) (m % 2 ^ k) + 8 ≤ 8 * 2 ^ k := byteBit_add_le le (Nat.mod_lt m (by positivity))
  have hbit : 128 - 8 * 2 ^ k * (elementOfByte le k m + 1) + byteBit le (2 ^ k) (m % 2 ^ k) = byteBit le 16 m := by
    unfold elementOfByte
    interval_cases k <;> cases le <;> simp <;> omega
  rw [elem, extractLsb'_extractLsb'_of_add_le x hin, hbit]

/-! The bytes of a read and of a write (R52, R53). -/

theorem valueOfBytes_concat (w : Nat) (bs : List Byte) (b : Byte) :
    valueOfBytes w (bs ++ [b]) = valueOfBytes w bs <<< 8 ||| b.setWidth w :=
  List.foldl_concat _ _ _ _

/-- A byte shifted in is the lowest byte. -/
theorem extractLsb'_shiftLeft_or_low {w : Nat} (x : BitVec w) (b : Byte) (hw : 8 ≤ w) :
    (x <<< 8 ||| b.setWidth w).extractLsb' 0 8 = b := by
  apply BitVec.eq_of_getLsbD_eq
  intro i hi
  have hiw : i < w := by omega
  simp [hi, hiw]

/-- A byte shifted in moves the others up by eight bits. -/
theorem extractLsb'_shiftLeft_or_high {w p : Nat} (x : BitVec w) (b : Byte) (hw : p + 16 ≤ w) :
    (x <<< 8 ||| b.setWidth w).extractLsb' (p + 8) 8 = x.extractLsb' p 8 := by
  apply BitVec.eq_of_getLsbD_eq
  intro i hi
  have hpos : p + 8 + i = p + i + 8 := by omega
  have hin : p + i + 8 < w := by omega
  have hin' : p + i < w := by omega
  simp [hi, hpos, hin, hin']

/-- Byte `j` of the value of a list of bytes, counted from the most significant, is byte `j` of the list: the last byte
shifted in is the lowest, and every other one stands eight bits above its place in the value before. -/
theorem extractLsb'_valueOfBytes {w n : Nat} {bs : List Byte} (hn : bs.length = n) (hw : 8 * n ≤ w) {j : Nat}
    (hj : j < bs.length) : (valueOfBytes w bs).extractLsb' (8 * (n - 1 - j)) 8 = bs[j] := by
  induction bs using List.reverseRecOn generalizing n with
  | nil => exact absurd hj (Nat.not_lt_zero j)
  | append_singleton bs b ih =>
    rw [List.length_append, List.length_singleton] at hn hj
    rw [valueOfBytes_concat]
    by_cases hlast : j = bs.length
    · have hbit : 8 * (n - 1 - j) = 0 := by omega
      rw [List.getElem_concat_length hlast, hbit, extractLsb'_shiftLeft_or_low _ b (by omega)]
    · have hj' : j < bs.length := by omega
      have hbit : 8 * (n - 1 - j) = 8 * (bs.length - 1 - j) + 8 := by omega
      rw [List.getElem_append_left hj', hbit, extractLsb'_shiftLeft_or_high _ b (by omega)]
      exact ih rfl (by omega) hj'

theorem bytesOfValue_valueOfBytes {w n : Nat} {bs : List Byte} (hn : bs.length = n) (hw : 8 * n ≤ w) :
    bytesOfValue n (valueOfBytes w bs) = bs := by
  apply List.ext_getElem
  · rw [bytesOfValue_length, hn]
  · intro j hj hj'
    rw [← extractLsb'_valueOfBytes hn hw hj']
    simp [bytesOfValue]

theorem length_inMemoryOrder (le : Bool) (bs : List Byte) : (inMemoryOrder le bs).length = bs.length := by
  cases le <;> simp [inMemoryOrder]

theorem readBytes_getElem? (s : State) (a : Nat) {n j : Nat} (hj : j < n) :
    (s.readBytes a n)[j]? = some (s.readByte (a + j)) := by
  simp [State.readBytes, hj]

theorem storedBytes_getElem? {w : Nat} (s : State) (v : BitVec w) {n j : Nat} (hj : j < n) :
    (s.storedBytes n v)[j]? = some (v.extractLsb' (byteBit s.le n j) 8) := by
  cases hle : s.le with
  | false => simp [State.storedBytes, inMemoryOrder, bytesOfValue, hle, hj]
  | true =>
    have hmirror : n - 1 - (n - 1 - j) = j := by omega
    simp [State.storedBytes, inMemoryOrder, bytesOfValue, hle, hj, hmirror]

/-- A value that was read, stored again in the same mode, puts the same bytes. -/
theorem storedBytes_memRead {w n : Nat} (hw : 8 * n ≤ w) (s : State) (a : Nat) :
    s.storedBytes n (s.memRead w a n) = s.readBytes a n := by
  have hlen : (inMemoryOrder s.le (s.readBytes a n)).length = n := by
    simp [length_inMemoryOrder, State.readBytes]
  rw [State.storedBytes, State.memRead, bytesOfValue_valueOfBytes hlen hw, inMemoryOrder_inMemoryOrder]

/-- Where a read of `n` bytes puts each. -/
theorem extractLsb'_memRead {w n : Nat} (hw : 8 * n ≤ w) (s : State) (a : Nat) {j : Nat} (hj : j < n) :
    (s.memRead w a n).extractLsb' (byteBit s.le n j) 8 = s.readByte (a + j) := by
  rw [← Option.some_inj, ← storedBytes_getElem? s _ hj, storedBytes_memRead hw, readBytes_getElem? s a hj]

/-- What a write of `n` bytes leaves in each. -/
theorem readByte_memWrite_inside {w : Nat} (s : State) (a : Nat) {n j : Nat} (v : BitVec w) (hj : j < n) :
    (s.memWrite a n v).readByte (a + j) = v.extractLsb' (byteBit s.le n j) 8 := by
  rw [← Option.some_inj, ← readBytes_getElem? _ a hj, readBytes_memWrite_same, storedBytes_getElem? s v hj]

/-- A quadword read puts each byte where a read of 16 bytes does, though little-endian mode reads two doublewords. -/
theorem extractLsb'_memReadQuad (s : State) (a : Nat) {j : Nat} (hj : j < 16) :
    (s.memReadQuad a).extractLsb' (byteBit s.le 16 j) 8 = s.readByte (a + j) := by
  have hdouble (b : Nat) {i : Nat} (hi : i < 8) := extractLsb'_memRead (w := 64) (n := 8) le_rfl s b hi
  cases hle : s.le with
  | false =>
    have h := extractLsb'_memRead (w := 128) le_rfl s a hj
    simpa [State.memReadQuad, hle] using h
  | true =>
    simp only [hle, byteBit_little] at hdouble
    rw [State.memReadQuad, if_pos hle, byteBit_little]
    by_cases hlow : j < 8
    · rw [extract_append_low _ _ (by omega), hdouble a hlow]
    · have hbit : 8 * j - 64 = 8 * (j - 8) := by omega
      have haddr : a + 8 + (j - 8) = a + j := by omega
      rw [extract_append_high _ _ (by omega), hbit, hdouble (a + 8) (by omega), haddr]

/-- A quadword write takes each byte from where a write of 16 bytes does, though little-endian mode writes two
doublewords. -/
theorem readByte_memWriteQuad_inside (s : State) (a : Nat) (v : Vec) {j : Nat} (hj : j < 16) :
    (s.memWriteQuad a v).readByte (a + j) = v.extractLsb' (byteBit s.le 16 j) 8 := by
  rw [State.memWriteQuad]
  cases hle : s.le with
  | false => rw [if_neg (by decide), readByte_memWrite_inside s a v hj, hle]
  | true =>
    rw [if_pos rfl]
    by_cases hlow : j < 8
    · rw [State.readByte_memWrite_outside _ _ (by omega), readByte_memWrite_inside s a _ hlow, hle, byteBit_little,
        byteBit_little, extractLsb'_extractLsb'_of_add_le v (by omega), Nat.zero_add]
    · have haddr : a + j = a + 8 + (j - 8) := by omega
      have hbit : 64 + 8 * (j - 8) = 8 * j := by omega
      rw [haddr, readByte_memWrite_inside _ _ _ (by omega), State.memWrite_le, hle, byteBit_little, byteBit_little,
        extractLsb'_extractLsb'_of_add_le v (by omega), hbit]

/-! Elements in their quadword. -/

/-- The bytes of a register after an element load (R120 to R122): inside the element from memory, outside it free. -/
theorem elem_loadedElement (s : State) {ea : Word} {k m : Nat} (hk : k ≤ 2) (ha : ea.toNat % 2 ^ k = 0) (hm : m < 16) :
    elem 8 (loadedElement s ea k) (if s.le then 15 - m else m) =
      if ea.toNat % 16 ≤ m ∧ m < ea.toNat % 16 + 2 ^ k then s.readByte (ea.toNat / 16 * 16 + m)
      else elem 8 s.undef (if s.le then 15 - m else m) := by
  have hoffset : ea.toNat % 16 % 2 ^ k = 0 := by interval_cases k <;> omega
  have hw : 8 * 2 ^ k = 8 ∨ 8 * 2 ^ k = 16 ∨ 8 * 2 ^ k = 32 := by interval_cases k <;> simp
  rw [elem_byte_eq_extractLsb' _ _ hm, elem_byte_eq_extractLsb' _ _ hm,
    ← elem_elementOfByte_extractLsb' _ _ hk hm, loadedElement, elementIndex_eq_elementOfByte,
    elem_setElem _ _ _ _ _ hw (elementOfByte_lt _ hk hm)]
  simp only [elementOfByte_eq_iff s.le hk hm (Nat.mod_lt _ (by decide)) hoffset]
  split
  case isTrue hin =>
    have haddr : ea.toNat + m % 2 ^ k = ea.toNat / 16 * 16 + m := by interval_cases k <;> omega
    rw [extractLsb'_memRead le_rfl s _ (Nat.mod_lt _ (by positivity)), haddr]
  case isFalse => exact elem_elementOfByte_extractLsb' _ _ hk hm

/-- The bytes of the element that an element store takes from a register (R127 to R129). -/
theorem elem_elementIndex_extractLsb' (s : State) (x : Vec) {ea : Word} {k j : Nat} (hk : k ≤ 2)
    (ha : ea.toNat % 2 ^ k = 0) (hj : j < 2 ^ k) :
    (elem (8 * 2 ^ k) x (s.elementIndex ea k)).extractLsb' (byteBit s.le (2 ^ k) j) 8 =
      elem 8 x (if s.le then 15 - (ea.toNat % 16 + j) else ea.toNat % 16 + j) := by
  have hoffset : ea.toNat % 16 % 2 ^ k = 0 := by interval_cases k <;> omega
  have hm : ea.toNat % 16 + j < 16 := by interval_cases k <;> omega
  have hj' : (ea.toNat % 16 + j) % 2 ^ k = j := by interval_cases k <;> omega
  have hsame := (elementOfByte_eq_iff s.le hk hm (Nat.mod_lt _ (by decide)) hoffset).2 ⟨by omega, by omega⟩
  rw [elem_byte_eq_extractLsb' _ _ hm, ← elem_elementOfByte_extractLsb' _ _ hk hm, hj', hsame,
    elementIndex_eq_elementOfByte]

/-! The frames of a register write and of a store. The frame of a register write names neither SAT nor the count of free
values, so one proof serves all three forms of it. -/

theorem registerFrame_setVr (s : State) (vd : VReg) (v : Vec) : RegisterFrame vd s (s.setVr vd v).advance :=
  registerFrame_setVr_orSat s vd v false

theorem registerFrame_setVr_draw (s : State) (vd : VReg) (v : Vec) : RegisterFrame vd s (s.setVr vd v).draw.advance :=
  registerFrame_setVr s vd v

/-- The frame of a store: all but memory and the stored addresses is as before, and `pc` is past the instruction. -/
def StoreFrame (s t : State) : Prop :=
  VrKept s t ∧ GprKept s t ∧ StatusKept s t ∧ StreamsKept s t ∧ ParametersKept s t ∧ t.fresh = s.fresh ∧ t.pc = s.pc + 4

theorem storeFrame_memWrite {w : Nat} (s : State) (a n : Nat) (v : BitVec w) :
    StoreFrame s (s.memWrite a n v).advance :=
  ⟨State.getVr_congr rfl, State.getGpr_congr rfl, ⟨rfl, rfl, rfl⟩, State.getStream_congr rfl, ⟨rfl, rfl, rfl, rfl⟩, rfl,
    rfl⟩

theorem storeFrame_memWriteQuad (s : State) (a : Nat) (v : Vec) : StoreFrame s (s.memWriteQuad a v).advance := by
  unfold State.memWriteQuad
  split
  · exact storeFrame_memWrite (s.memWrite a 8 _) _ _ _
  · exact storeFrame_memWrite s _ _ _

theorem effective_mod_two_pow (s : State) (ra rb : GReg) (k : Nat) : (s.effective ra rb k).toNat % 2 ^ k = 0 := by
  rw [toNat_effective, Nat.mul_mod_left]

/-! The loads. -/

theorem exec_elementLoad {vd : VReg} {ra rb : GReg} {k : Nat} {i : Instr} (s : State)
    (h : (k, i) ∈ [(0, Instr.lvebx vd ra rb), (1, Instr.lvehx vd ra rb), (2, Instr.lvewx vd ra rb)]) :
    k ≤ 2 ∧ exec i s = loadElement vd (s.effective ra rb k) k s := by
  simp only [List.mem_cons, Prod.mk.injEq, List.not_mem_nil, or_false] at h
  obtain ⟨rfl, rfl⟩ | ⟨rfl, rfl⟩ | ⟨rfl, rfl⟩ := h
  all_goals exact ⟨by decide, rfl⟩

/-- Settles O22: the element load writes the free value with one element replaced, and the address is aligned, so that
element holds the `2^k` bytes from the address's place in its quadword on. -/
theorem elementLoads : Obligations.element_loads := by
  rintro s vd ra rb k i ea hi rfl hvec hacc
  obtain ⟨hk, hexec⟩ := exec_elementLoad s hi
  refine ⟨_, hexec.trans (access_available hvec hacc _ _), fun j hj => ?_, rfl, rfl, rfl,
    registerFrame_setVr_draw s vd _⟩
  have hvr : (s.setVr vd (loadedElement s (s.effective ra rb k) k)).draw.advance.getVr vd =
      loadedElement s (s.effective ra rb k) k := State.getVr_setVr_same s vd _
  rw [hvr]
  exact elem_loadedElement s hk (effective_mod_two_pow s ra rb k) hj

/-- `lvxl` differs from `lvx` in a hint to the cache, which the model leaves out (R62). -/
theorem exec_quadLoad {vd : VReg} {ra rb : GReg} {i : Instr} (s : State)
    (h : i ∈ [Instr.lvx vd ra rb, Instr.lvxl vd ra rb]) : exec i s = loadQuad vd (s.effective ra rb 4) s := by
  simp only [List.mem_cons, List.not_mem_nil, or_false] at h
  obtain rfl | rfl := h <;> rfl

/-- Settles O23: each byte of the register is the byte of the quadword read at its place. -/
theorem quadwordLoads : Obligations.quadword_loads := by
  intro s vd ra rb i hi hvec hacc
  refine ⟨_, (exec_quadLoad s hi).trans (access_available hvec hacc _ _), fun j hj => ?_, rfl, rfl, rfl,
    registerFrame_setVr s vd _⟩
  have hvr : (s.setVr vd (s.memReadQuad (s.effective ra rb 4).toNat)).advance.getVr vd =
      s.memReadQuad (s.effective ra rb 4).toNat := State.getVr_setVr_same s vd _
  rw [hvr, elem_byte_eq_extractLsb' _ _ hj, extractLsb'_memReadQuad s _ hj]

/-! The alignment vectors. -/

/-- An instruction that writes a vector built from its elements. -/
theorem writesElements_writeVr {w : Nat} (hw : w = 8 ∨ w = 16 ∨ w = 32) {s : State} (h : s.vecAvailable = true)
    (vd : VReg) (f : Nat → BitVec w) : WritesElements w vd s (writeVr s vd (vecOf w f)) f := by
  refine ⟨_, writeVr_available h vd _, fun k hk => ?_, rfl, rfl, rfl, registerFrame_setVr s vd _⟩
  have hvr : (s.setVr vd (vecOf w f)).advance.getVr vd = vecOf w f := State.getVr_setVr_same s vd _
  rw [hvr, elem_vecOf w f k hw hk]

theorem shiftLeftControl_eq (sh : Nat) : shiftLeftControl sh = vecOf 8 fun k => BitVec.ofNat 8 (sh + k) := by
  simp only [shiftLeftControl, trunc, BitVec.ofInt_natCast]

theorem shiftRightControl_eq {sh : Nat} (h : sh ≤ 16) :
    shiftRightControl sh = vecOf 8 fun k => BitVec.ofNat 8 (16 - sh + k) := by
  have hcast (k : Nat) : (16 : Int) - sh + k = ((16 - sh + k : Nat) : Int) := by omega
  simp only [shiftRightControl, trunc, hcast, BitVec.ofInt_natCast]

/-- Settles O24: the shift is the place of the address in its quadword, at most 15, so no control byte is negative. -/
theorem alignmentVectors : Obligations.alignment_vectors := by
  rintro s vd ra rb sh hvec rfl
  have hsh : (s.effective ra rb 0).toNat % 16 ≤ 16 := (Nat.mod_lt _ (by decide)).le
  constructor
  · rw [show exec (.lvsl vd ra rb) s = execLvsl vd ra rb s from rfl, execLvsl, quadOffset_eq_mod, shiftLeftControl_eq]
    exact writesElements_writeVr (.inl rfl) hvec vd _
  · rw [show exec (.lvsr vd ra rb) s = execLvsr vd ra rb s from rfl, execLvsr, quadOffset_eq_mod,
      shiftRightControl_eq hsh]
    exact writesElements_writeVr (.inl rfl) hvec vd _

/-! The stores. -/

theorem exec_elementStore {vs : VReg} {ra rb : GReg} {k : Nat} {i : Instr} (s : State)
    (h : (k, i) ∈ [(0, Instr.stvebx vs ra rb), (1, Instr.stvehx vs ra rb), (2, Instr.stvewx vs ra rb)]) :
    k ≤ 2 ∧ exec i s = storeElement vs (s.effective ra rb k) k s := by
  simp only [List.mem_cons, Prod.mk.injEq, List.not_mem_nil, or_false] at h
  obtain ⟨rfl, rfl⟩ | ⟨rfl, rfl⟩ | ⟨rfl, rfl⟩ := h
  all_goals exact ⟨by decide, rfl⟩

/-- Settles O25: the element store writes the `2^k` bytes of one element of the register, which are the register's bytes
from the address's place in its quadword on, because the address is aligned. -/
theorem elementStores : Obligations.element_stores := by
  rintro s vs ra rb k i ea hi rfl hvec hacc
  obtain ⟨hk, hexec⟩ := exec_elementStore s hi
  refine ⟨_, hexec.trans (access_available hvec hacc _ _), fun j hj => ?_,
    fun a ha => State.readByte_memWrite_outside s _ ha, storeFrame_memWrite s _ _ _⟩
  exact (readByte_memWrite_inside s _ _ hj).trans
    (elem_elementIndex_extractLsb' s _ hk (effective_mod_two_pow s ra rb k) hj)

/-- `stvxl` differs from `stvx` in a hint to the cache, which the model leaves out (R62). -/
theorem exec_quadStore {vs : VReg} {ra rb : GReg} {i : Instr} (s : State)
    (h : i ∈ [Instr.stvx vs ra rb, Instr.stvxl vs ra rb]) : exec i s = storeQuad vs (s.effective ra rb 4) s := by
  simp only [List.mem_cons, List.not_mem_nil, or_false] at h
  obtain rfl | rfl := h <;> rfl

/-- Settles O26: each byte written is the byte of the register at its place. -/
theorem quadwordStores : Obligations.quadword_stores := by
  intro s vs ra rb i hi hvec hacc
  refine ⟨_, (exec_quadStore s hi).trans (access_available hvec hacc _ _), fun j hj => ?_,
    fun a ha => State.readByte_memWriteQuad_outside s _ ha, storeFrame_memWriteQuad s _ _⟩
  rw [elem_byte_eq_extractLsb' _ _ hj]
  exact readByte_memWriteQuad_inside s _ _ hj

end Sys2Proof.Proofs
end

section
/-! PROOFS. The moves from and to VSCR (42_vscr_move.md R140, R141): the number that the VSCR word stands for, and the
bits of a register from which VSCR is set. -/

namespace Sys2Proof.Proofs
open Sys2Proof Sys2Proof.Machine

/-- The widened VSCR word as a number: NJ weighs `2^16` and SAT 1, because they are bits 111 and 127 of a register (R25,
R140). -/
theorem vscr_widened_eq_ofNat (s : State) :
    (0#96 ++ s.vscr : Vec) = BitVec.ofNat 128 ((if s.nj then 0x10000 else 0) + (if s.sat then 1 else 0)) := by
  unfold State.vscr
  cases s.nj <;> cases s.sat <;> rfl

/-- `mtvscr` reads the last word of `vB`, whose low bits are those of the register (R141). -/
theorem getLsbD_elem_last_word (x : Vec) {i : Nat} (hi : i < 32) : (elem 32 x 3).getLsbD i = x.getLsbD i := by
  simp [elem, hi]

theorem exec_mfvscr {s : State} (h : s.vecAvailable = true) (vd : VReg) :
    exec (.mfvscr vd) s = .next (s.setVr vd (0#96 ++ s.vscr)).advance := writeVr_available h vd _

theorem exec_mtvscr {s : State} (h : s.vecAvailable = true) (vb : VReg) :
    exec (.mtvscr vb) s = .next (s.setVscr (elem 32 (s.getVr vb) 3)).advance := finish_available h _

/-- Settles O28: `mfvscr` writes the VSCR word widened with zeros, and `mtvscr` updates the two VSCR bits of the state and
no other field. -/
theorem vscrMoves : Obligations.vscr_moves := by
  intro s hvec
  constructor
  · intro vd
    have hread : (s.setVr vd (0#96 ++ s.vscr)).advance.getVr vd = 0#96 ++ s.vscr := State.getVr_setVr_same s vd _
    exact ⟨_, exec_mfvscr hvec vd, hread.trans (vscr_widened_eq_ofNat s), rfl, rfl, rfl, registerFrame_setVr s vd _⟩
  · intro vb
    exact ⟨_, exec_mtvscr hvec vb, getLsbD_elem_last_word _ (by decide), getLsbD_elem_last_word _ (by decide), rfl,
      State.getVr_congr rfl, State.getGpr_congr rfl, State.readByte_congr rfl, State.getStream_congr rfl,
      ⟨rfl, rfl, rfl, rfl⟩, rfl, rfl, rfl⟩

end Sys2Proof.Proofs
end

section
/-! PROOFS. The adds and subtracts (43_int_add_sub.md R150 to R170): the modulo forms and the carry forms read as
operations on bit vectors, the saturating forms as clamps of exact integers. -/

namespace Sys2Proof.Proofs
open Sys2Proof Sys2Proof.Machine

/-! The elements of the modulo forms and of the carry forms. -/

theorem trunc_uint {w : Nat} (x : BitVec w) : trunc w (uint x) = x := by
  rw [trunc, uint, BitVec.ofInt_natCast, BitVec.ofNat_toNat, BitVec.setWidth_eq]

/-- The truncated exact sum is the sum of bit vectors (R155, R157, R159). -/
theorem trunc_uint_add {w : Nat} (x y : BitVec w) : trunc w (uint x + uint y) = x + y := by
  calc trunc w (uint x + uint y) = trunc w (uint x) + trunc w (uint y) := BitVec.ofInt_add ..
    _ = x + y := by rw [trunc_uint, trunc_uint]

/-- The truncated exact difference, negative or not, is the difference of bit vectors (R165, R167, R169). -/
theorem trunc_uint_sub {w : Nat} (x y : BitVec w) : trunc w (uint x - uint y) = x - y := by
  have hsum : trunc w (uint x - uint y) + y = x := by
    calc trunc w (uint x - uint y) + y = trunc w (uint x - uint y) + trunc w (uint y) := by rw [trunc_uint]
      _ = trunc w (uint x - uint y + uint y) := (BitVec.ofInt_add ..).symm
      _ = x := by rw [sub_add_cancel, trunc_uint]
  exact eq_sub_of_add_eq hsum

/-- A sum of two `w`-bit numbers is below `2 * 2^w`, so its quotient by `2^w` is the carry bit (R151). -/
theorem carry_eq_div {w : Nat} (x y : BitVec w) :
    (if ((2 ^ w : Nat) : Int) ≤ uint x + uint y then 1 else 0) = BitVec.ofNat w ((x.toNat + y.toNat) / 2 ^ w) := by
  have hx := x.isLt
  have hy := y.isLt
  have hexact : ((2 ^ w : Nat) : Int) ≤ uint x + uint y ↔ 2 ^ w ≤ x.toNat + y.toNat := by unfold uint; norm_cast
  simp only [hexact]
  by_cases hcarry : 2 ^ w ≤ x.toNat + y.toNat
  · have hdiv : (x.toNat + y.toNat) / 2 ^ w = 1 := Nat.div_eq_of_lt_le (by omega) (by omega)
    rw [hdiv, if_pos hcarry]; rfl
  · have hdiv : (x.toNat + y.toNat) / 2 ^ w = 0 := Nat.div_eq_of_lt (by omega)
    rw [hdiv, if_neg hcarry]; rfl

theorem addModulo_eq (w : Nat) (a b : Vec) : addModulo w a b = vecOf w fun k => elem w a k + elem w b k := by
  simp only [addModulo, trunc_uint_add]

theorem subModulo_eq (w : Nat) (a b : Vec) : subModulo w a b = vecOf w fun k => elem w a k - elem w b k := by
  simp only [subModulo, trunc_uint_sub]

theorem addCarry_eq (w : Nat) (a b : Vec) :
    addCarry w a b = vecOf w fun k => BitVec.ofNat w (((elem w a k).toNat + (elem w b k).toNat) / 2 ^ w) := by
  simp only [addCarry, carry_eq_div]

/-- The complement of the borrow is 0 exactly where the minuend is the smaller number (R161). -/
theorem subCarry_eq (w : Nat) (a b : Vec) :
    subCarry w a b = vecOf w fun k => if (elem w a k).toNat < (elem w b k).toNat then 0 else 1 := by
  simp only [subCarry, uint, Int.ofNat_le, ← Nat.not_lt, ite_not]

/-! What the modulo and carry forms write; the saturating forms are clamps as they stand. -/

section
variable {w : Nat} (hw : w = 8 ∨ w = 16 ∨ w = 32) {s : State} (ha : s.vecAvailable = true) (vd : VReg) (a b : Vec)
include hw ha

theorem writesElements_addModulo :
    WritesElements w vd s (writeVr s vd (addModulo w a b)) fun k => elem w a k + elem w b k :=
  addModulo_eq w a b ▸ writesElements_writeVr hw ha vd _

theorem writesElements_subModulo :
    WritesElements w vd s (writeVr s vd (subModulo w a b)) fun k => elem w a k - elem w b k :=
  subModulo_eq w a b ▸ writesElements_writeVr hw ha vd _

theorem writesElements_addCarry : WritesElements w vd s (writeVr s vd (addCarry w a b)) fun k =>
    BitVec.ofNat w (((elem w a k).toNat + (elem w b k).toNat) / 2 ^ w) :=
  addCarry_eq w a b ▸ writesElements_writeVr hw ha vd _

theorem writesElements_subCarry : WritesElements w vd s (writeVr s vd (subCarry w a b)) fun k =>
    if (elem w a k).toNat < (elem w b k).toNat then 0 else 1 :=
  subCarry_eq w a b ▸ writesElements_writeVr hw ha vd _

end

/-! The forms of R150. -/

/-- A form of R150 is an add and a subtract for each of the three element widths. -/
theorem forall_widths {P : Nat → Instr → Instr → Prop} {add8 sub8 add16 sub16 add32 sub32 : Instr}
    (h8 : P 8 add8 sub8) (h16 : P 16 add16 sub16) (h32 : P 32 add32 sub32) (w : Nat) (add sub : Instr)
    (h : (w, add, sub) ∈ [(8, add8, sub8), (16, add16, sub16), (32, add32, sub32)]) : P w add sub := by
  simp only [List.mem_cons, Prod.mk.injEq, List.not_mem_nil, or_false] at h
  obtain ⟨rfl, rfl, rfl⟩ | ⟨rfl, rfl, rfl⟩ | ⟨rfl, rfl, rfl⟩ := h
  · exact h8
  · exact h16
  · exact h32

/-- Settles O29: each form, at each width, is the write of its shared operation. -/
theorem addsAndSubtracts : Obligations.adds_and_subtracts := by
  intro s vd va vb ha
  have h8 : 8 = 8 ∨ 8 = 16 ∨ 8 = 32 := .inl rfl
  have h16 : 16 = 8 ∨ 16 = 16 ∨ 16 = 32 := .inr (.inl rfl)
  have h32 : 32 = 8 ∨ 32 = 16 ∨ 32 = 32 := .inr (.inr rfl)
  have modulo {w} (hw : w = 8 ∨ w = 16 ∨ w = 32) :=
    And.intro (writesElements_addModulo hw ha vd (s.getVr va) (s.getVr vb))
      (writesElements_subModulo hw ha vd (s.getVr va) (s.getVr vb))
  have signed {w} (hw : w = 8 ∨ w = 16 ∨ w = 32) (z z' : Nat → Int) :=
    And.intro (writesSigned_satS hw ha vd z) (writesSigned_satS hw ha vd z')
  have unsigned {w} (hw : w = 8 ∨ w = 16 ∨ w = 32) (z z' : Nat → Int) :=
    And.intro (writesUnsigned_satU hw ha vd z) (writesUnsigned_satU hw ha vd z')
  exact ⟨forall_widths (modulo h8) (modulo h16) (modulo h32),
    forall_widths (signed h8 _ _) (signed h16 _ _) (signed h32 _ _),
    forall_widths (unsigned h8 _ _) (unsigned h16 _ _) (unsigned h32 _ _),
    writesElements_addCarry h32 ha vd _ _, writesElements_subCarry h32 ha vd _ _⟩

end Sys2Proof.Proofs
end

section
/-! PROOFS. The averages, maxima and minima (44_int_avg_minmax.md R180 to R198): a rounded-up half sum lies in the range
of its operands, so its truncation keeps it, and the two-way selections are the maximum and minimum of the exact
integers. -/

namespace Sys2Proof.Proofs
open Sys2Proof Sys2Proof.Machine

/-! One element. -/

/-- The rounded-up half sum of two signed numbers is in their range, so truncation keeps it (R180). -/
theorem toInt_trunc_avg {w : Nat} (hw : 0 < w) (x y : BitVec w) :
    (trunc w ((sint x + sint y + 1).fdiv 2)).toInt = (x.toInt + y.toInt + 1) / 2 := by
  have hx := BitVec.le_toInt x
  have hx' := BitVec.toInt_lt (x := x)
  have hy := BitVec.le_toInt y
  have hy' := BitVec.toInt_lt (x := y)
  rw [Int.fdiv_eq_ediv_of_nonneg _ (by decide), sint, sint]
  exact trunc_toInt hw (by omega) (by omega)

/-- The rounded-up half sum of two unsigned numbers is in their range, so truncation keeps it (R180). -/
theorem toNat_trunc_avg {w : Nat} (x y : BitVec w) :
    (trunc w ((uint x + uint y + 1).fdiv 2)).toNat = (x.toNat + y.toNat + 1) / 2 := by
  have hx := x.isLt
  have hy := y.isLt
  have hcast : (uint x + uint y + 1).fdiv 2 = (((x.toNat + y.toNat + 1) / 2 : Nat) : Int) := by
    rw [Int.fdiv_eq_ediv_of_nonneg _ (by decide), uint, uint]
    push_cast
    rfl
  rw [hcast, trunc, BitVec.ofInt_natCast, BitVec.toNat_ofNat, Nat.mod_eq_of_lt (by omega)]

theorem toInt_larger {w : Nat} (x y : BitVec w) :
    (if sint y ≤ sint x then x else y).toInt = max x.toInt y.toInt := by
  rw [max_def', apply_ite BitVec.toInt]; rfl

theorem toInt_smaller {w : Nat} (x y : BitVec w) :
    (if sint x < sint y then x else y).toInt = min x.toInt y.toInt := by
  rw [min_def_lt, apply_ite BitVec.toInt]; rfl

theorem toNat_larger {w : Nat} (x y : BitVec w) :
    (if uint y ≤ uint x then x else y).toNat = max x.toNat y.toNat := by
  simp only [uint, Int.ofNat_le, max_def', apply_ite BitVec.toNat]

theorem toNat_smaller {w : Nat} (x y : BitVec w) :
    (if uint x < uint y then x else y).toNat = min x.toNat y.toNat := by
  simp only [uint, Int.ofNat_lt, min_def_lt, apply_ite BitVec.toNat]

/-! The eighteen instructions. -/

/-- Each instruction of the family writes its shared operation at its element width. -/
theorem exec_avgMaxMin {vd va vb : VReg} {w : Nat} {avgs maxs mins avgu maxu minu : Instr} (s : State)
    (h : (w, avgs, maxs, mins, avgu, maxu, minu) ∈
      [(8, Instr.vavgsb vd va vb, Instr.vmaxsb vd va vb, Instr.vminsb vd va vb, Instr.vavgub vd va vb,
          Instr.vmaxub vd va vb, Instr.vminub vd va vb),
        (16, Instr.vavgsh vd va vb, Instr.vmaxsh vd va vb, Instr.vminsh vd va vb, Instr.vavguh vd va vb,
          Instr.vmaxuh vd va vb, Instr.vminuh vd va vb),
        (32, Instr.vavgsw vd va vb, Instr.vmaxsw vd va vb, Instr.vminsw vd va vb, Instr.vavguw vd va vb,
          Instr.vmaxuw vd va vb, Instr.vminuw vd va vb)]) :
    (w = 8 ∨ w = 16 ∨ w = 32) ∧
      exec avgs s = writeVr s vd (avgSigned w (s.getVr va) (s.getVr vb)) ∧
      exec maxs s = writeVr s vd (maxSigned w (s.getVr va) (s.getVr vb)) ∧
      exec mins s = writeVr s vd (minSigned w (s.getVr va) (s.getVr vb)) ∧
      exec avgu s = writeVr s vd (avgUnsigned w (s.getVr va) (s.getVr vb)) ∧
      exec maxu s = writeVr s vd (maxUnsigned w (s.getVr va) (s.getVr vb)) ∧
      exec minu s = writeVr s vd (minUnsigned w (s.getVr va) (s.getVr vb)) := by
  simp only [List.mem_cons, Prod.mk.injEq, List.not_mem_nil, or_false] at h
  obtain ⟨rfl, rfl, rfl, rfl, rfl, rfl, rfl⟩ | ⟨rfl, rfl, rfl, rfl, rfl, rfl, rfl⟩ |
    ⟨rfl, rfl, rfl, rfl, rfl, rfl, rfl⟩ := h
  all_goals exact ⟨by decide, rfl, rfl, rfl, rfl, rfl, rfl⟩

/-- Settles O30: each instruction writes the elements of its shared operation, and each element is the exact average,
maximum or minimum of the operands' elements. -/
theorem averagesMaximaMinima : Obligations.averages_maxima_minima := by
  intro s vd va vb w avgs maxs mins avgu maxu minu ha hfamily
  obtain ⟨hw, havgs, hmaxs, hmins, havgu, hmaxu, hminu⟩ := exec_avgMaxMin s hfamily
  have hpos : 0 < w := by omega
  have writes (f : Nat → BitVec w) : WritesElements w vd s (writeVr s vd (vecOf w f)) f :=
    writesElements_writeVr hw ha vd f
  rw [havgs, hmaxs, hmins, havgu, hmaxu, hminu]
  exact ⟨_, _, _, _, _, _, writes _, writes _, writes _, writes _, writes _, writes _, fun k _ =>
    ⟨toInt_trunc_avg hpos _ _, toInt_larger _ _, toInt_smaller _ _, toNat_trunc_avg _ _, toNat_larger _ _,
      toNat_smaller _ _⟩⟩

end Sys2Proof.Proofs
end

section
/-! PROOFS. The integer compares (45_int_compare.md R200 to R209): the state that a compare leaves is said once for any
relation. A vector of masks is all ones, or zero, exactly where all its elements are, so the two tests on the result say
whether the relation holds for every element and whether for none. -/

namespace Sys2Proof.Proofs
open Sys2Proof Sys2Proof.Machine

/-! The end of an instruction that writes a vector and, where it records, CR6. -/

theorem cr6Becomes_setCr6 (s : State) (vd : VReg) (v : Vec) (f : BitVec 4) :
    Cr6Becomes f s ((s.setVr vd v).setCr6 f).advance :=
  ⟨State.cr6_setCr6 _ f, setCr6_cr_high _ f, setCr6_cr_low _ f⟩

theorem registerFrame_setVr_setCr6 (s : State) (vd : VReg) (v : Vec) (f : BitVec 4) :
    RegisterFrame vd s ((s.setVr vd v).setCr6 f).advance := registerFrame_setVr s vd v

/-- What a compare leaves behind, whatever vector and summary it computes. -/
theorem writeVrCr6_leaves {s : State} (ha : s.vecAvailable = true) (vd : VReg) (rc : Bool) (v : Vec × BitVec 4) :
    ∃ t, writeVrCr6 s vd rc v = .next t ∧ t.getVr vd = v.1 ∧ (rc = false → t.cr = s.cr) ∧
      (rc = true → Cr6Becomes v.2 s t) ∧ t.sat = s.sat ∧ t.fresh = s.fresh ∧ RegisterFrame vd s t := by
  have hread : (s.setVr vd v.1).getVr vd = v.1 := State.getVr_setVr_same s vd v.1
  refine ⟨_, writeVrCr6_available ha vd rc v, ?_⟩
  cases rc with
  | false => exact ⟨hread, fun _ => rfl, nofun, rfl, rfl, registerFrame_setVr s vd v.1⟩
  | true =>
    exact ⟨hread, nofun, fun _ => cr6Becomes_setCr6 s vd v.1 v.2, rfl, rfl, registerFrame_setVr_setCr6 s vd v.1 v.2⟩

/-! Masks: all ones for a truth value that holds, zero for one that does not. -/

theorem fill_inj {w : Nat} (hw : 0 < w) {p q : Bool} : fill w p = fill w q ↔ p = q := by
  have hne : BitVec.allOnes w ≠ 0#w := fun h => by simpa [hw] using congrArg (·.getLsbD 0) h
  cases p <;> cases q <;> simp [fill, hne, hne.symm]

/-- Every element of a whole-register mask is the mask of its width. -/
theorem elem_fill {w k : Nat} (hk : k < 128 / w) (p : Bool) : elem w (fill 128 p) k = fill w p := by
  have hend : w * (k + 1) ≤ 128 := (Nat.mul_comm ..).trans_le (Nat.mul_le_of_le_div w (k + 1) 128 hk)
  have hwide : w ≤ w * (k + 1) := Nat.le_mul_of_pos_right w k.succ_pos
  cases p with
  | false => exact BitVec.extractLsb'_zero
  | true =>
    refine BitVec.eq_of_getLsbD_eq fun i hi => ?_
    have hin : 128 - w * (k + 1) + i < 128 := by omega
    simp only [elem, fill, if_true, BitVec.getLsbD_extractLsb', BitVec.getLsbD_allOnes, hi, hin, decide_true,
      Bool.true_and]

/-- A vector of masks is a whole-register mask exactly where all its elements have that truth value. -/
theorem vecOf_fill_eq_fill_iff {w : Nat} (hw : w = 8 ∨ w = 16 ∨ w = 32) (f : Nat → Bool) (p : Bool) :
    (vecOf w fun k => fill w (f k)) = fill 128 p ↔ ∀ k, k < 128 / w → f k = p := by
  have helem (k : Nat) (hk : k < 128 / w) :
      elem w (vecOf w fun k => fill w (f k)) k = elem w (fill 128 p) k ↔ f k = p := by
    rw [elem_vecOf w _ k hw hk, elem_fill hk, fill_inj (by omega)]
  exact ⟨fun h k hk => (helem k hk).1 (by rw [h]), fun h => vec_ext w hw fun k hk => (helem k hk).2 (h k hk)⟩

/-! The summary of a result (R200). -/

theorem cr6OfCompare_fill_true : cr6OfCompare (fill 128 true) = 0b1000 := by decide

theorem cr6OfCompare_fill_false : cr6OfCompare (fill 128 false) = 0b0010 := by decide

theorem cr6OfCompare_of_ne_fill {v : Vec} (hall : v ≠ fill 128 true) (hnone : v ≠ fill 128 false) :
    cr6OfCompare v = 0b0000 := by
  have h₁ : (v == BitVec.allOnes 128) = false := beq_false_of_ne hall
  have h₀ : (v == 0) = false := beq_false_of_ne hnone
  rw [cr6OfCompare, h₁, h₀]
  rfl

/-- A compare whose tests `f` decide the relation `p` writes the masks of `p` and their summary. -/
theorem writesCompare_compared {w : Nat} (hw : w = 8 ∨ w = 16 ∨ w = 32) {s : State} (ha : s.vecAvailable = true)
    (vd : VReg) (rc : Bool) {f : Nat → Bool} {p : Nat → Prop} (hp : ∀ k, f k = true ↔ p k) :
    WritesCompare w vd rc s (writeVrCr6 s vd rc (compared w f)) p := by
  have hn (k : Nat) : f k = false ↔ ¬p k := by rw [← hp, Bool.not_eq_true]
  obtain ⟨t, hnext, hvr, hcr, hcr6, hrest⟩ := writeVrCr6_leaves ha vd rc (compared w f)
  have helem (k : Nat) (hk : k < 128 / w) : elem w (t.getVr vd) k = fill w (f k) := by
    rw [hvr, compared, elem_vecOf w _ k hw hk]
  have hmask := vecOf_fill_eq_fill_iff hw f
  have hsummary {c : BitVec 4} (hc : cr6OfCompare (vecOf w fun k => fill w (f k)) = c) (hrc : rc = true) :
      Cr6Becomes c s t := hc ▸ hcr6 hrc
  refine ⟨t, hnext, fun k hk => ⟨fun h => ?_, fun h => ?_⟩, hcr, fun hrc hall => ?_, fun hrc hnone => ?_,
    fun hrc ⟨i, hi, hpi⟩ ⟨j, hj, hpj⟩ => ?_, hrest⟩
  · rw [helem k hk, (hp k).2 h]; rfl
  · rw [helem k hk, (hn k).2 h]; rfl
  · have hv := (hmask true).2 fun k hk => (hp k).2 (hall k hk)
    exact hsummary (hv ▸ cr6OfCompare_fill_true) hrc
  · have hv := (hmask false).2 fun k hk => (hn k).2 (hnone k hk)
    exact hsummary (hv ▸ cr6OfCompare_fill_false) hrc
  · refine hsummary (cr6OfCompare_of_ne_fill (fun hv => ?_) fun hv => ?_) hrc
    · exact hpj ((hp j).1 ((hmask true).1 hv j hj))
    · exact (hn i).1 ((hmask false).1 hv i hi) hpi

/-! The nine instructions. -/

/-- Each instruction of the family compares at its element width. -/
theorem exec_integerCompare {vd va vb : VReg} {rc : Bool} {w : Nat} {eq gts gtu : Instr} (s : State)
    (h : (w, eq, gts, gtu) ∈
      [(8, Instr.vcmpequb vd va vb rc, Instr.vcmpgtsb vd va vb rc, Instr.vcmpgtub vd va vb rc),
        (16, Instr.vcmpequh vd va vb rc, Instr.vcmpgtsh vd va vb rc, Instr.vcmpgtuh vd va vb rc),
        (32, Instr.vcmpequw vd va vb rc, Instr.vcmpgtsw vd va vb rc, Instr.vcmpgtuw vd va vb rc)]) :
    (w = 8 ∨ w = 16 ∨ w = 32) ∧
      exec eq s = writeVrCr6 s vd rc (compareEqual w (s.getVr va) (s.getVr vb)) ∧
      exec gts s = writeVrCr6 s vd rc (compareSigned w (s.getVr va) (s.getVr vb)) ∧
      exec gtu s = writeVrCr6 s vd rc (compareUnsigned w (s.getVr va) (s.getVr vb)) := by
  simp only [List.mem_cons, Prod.mk.injEq, List.not_mem_nil, or_false] at h
  obtain ⟨rfl, rfl, rfl, rfl⟩ | ⟨rfl, rfl, rfl, rfl⟩ | ⟨rfl, rfl, rfl, rfl⟩ := h
  all_goals exact ⟨by decide, rfl, rfl, rfl⟩

/-- Settles O31: each instruction is a compare whose test decides its relation: equality, the order of the signed
readings, or that of the unsigned readings, which are natural numbers. -/
theorem integerCompares : Obligations.integer_compares := by
  intro s vd va vb rc w eq gts gtu ha hfamily
  obtain ⟨hw, heq, hgts, hgtu⟩ := exec_integerCompare s hfamily
  rw [heq, hgts, hgtu]
  exact ⟨writesCompare_compared hw ha vd rc fun _ => beq_iff_eq,
    writesCompare_compared hw ha vd rc fun _ => decide_eq_true_iff,
    writesCompare_compared hw ha vd rc fun _ => decide_eq_true_iff.trans Int.ofNat_lt⟩

end Sys2Proof.Proofs
end

section
/-! PROOFS. The multiplies, multiply-sums and sums across (46_int_multiply_sum.md R220 to R242): truncation is additive
and multiplicative, so the modulo forms read as operations on bit vectors; the saturating forms clamp one exact integer
per element, where an element that an instruction clears is the clamp of 0; and a full product fits in twice the width
of its factors. -/

namespace Sys2Proof.Proofs
open Sys2Proof Sys2Proof.Machine

/-! Exact sums and products. -/

theorem sumTo_eq_sum (n : Nat) (f : Nat → Int) : sumTo n f = ((List.range n).map f).sum := by
  induction n with
  | zero => rfl
  | succ n ih => rw [List.sum_range_succ, ← ih, sumTo]

theorem uint_mul_uint {w : Nat} (x y : BitVec w) : uint x * uint y = (x.toNat * y.toNat : Nat) :=
  (Nat.cast_mul ..).symm

theorem halfProducts_eq_add (r : Half → Int) (a b : Vec) (k : Nat) :
    halfProducts r a b k =
      r (elem 16 a (2 * k)) * r (elem 16 b (2 * k)) + r (elem 16 a (2 * k + 1)) * r (elem 16 b (2 * k + 1)) := by
  simp only [halfProducts, sumTo, zero_add, add_zero]

/-! Multiply high and add. -/

/-- The shift to the right is the floor division (R8), and the clamp is applied once, after the addition (R220). -/
theorem writesSigned_multiplyHighAdd {s : State} (ha : s.vecAvailable = true) (vd : VReg) (round : Int) (a b c : Vec) :
    WritesSigned 16 vd s (writeVrSat s vd (multiplyHighAdd round a b c)) fun k =>
      ((elem 16 a k).toInt * (elem 16 b k).toInt + round) / 2 ^ 15 + (elem 16 c k).toInt := by
  simp only [multiplyHighAdd, Int.fdiv_eq_ediv_of_nonneg _ (show (0 : Int) ≤ 2 ^ 15 by decide)]
  exact writesSigned_satS (.inr (.inl rfl)) ha vd _

/-- Settles O32: the two instructions differ in the constant they add to the product, 0 or `2 ^ 14`. -/
theorem multiplyHighAdd : Obligations.multiply_high_add := by
  intro s vd va vb vc ha
  have plain := writesSigned_multiplyHighAdd ha vd 0 (s.getVr va) (s.getVr vb) (s.getVr vc)
  have rounded := writesSigned_multiplyHighAdd ha vd (2 ^ 14) (s.getVr va) (s.getVr vb) (s.getVr vc)
  simp only [add_zero] at plain
  exact ⟨plain, rounded⟩

/-! The modulo forms. -/

theorem trunc_add (w : Nat) (y z : Int) : trunc w (y + z) = trunc w y + trunc w z := BitVec.ofInt_add ..

theorem trunc_mul (w : Nat) (y z : Int) : trunc w (y * z) = trunc w y * trunc w z := BitVec.ofInt_mul ..

theorem trunc_sint {w : Nat} (x : BitVec w) : trunc w (sint x) = x := BitVec.ofInt_toInt

theorem trunc_sumTo (w n : Nat) (f : Nat → Int) :
    trunc w (sumTo n f) = BitVec.ofInt w ((List.range n).map f).sum := by
  rw [sumTo_eq_sum, trunc]

/-- A sum of unsigned products is a natural number. -/
theorem trunc_sumTo_uint {v : Nat} (w n : Nat) (x y : Nat → BitVec v) :
    trunc w (sumTo n fun j => uint (x j) * uint (y j)) =
      BitVec.ofNat w ((List.range n).map fun j => (x j).toNat * (y j).toNat).sum := by
  have hcast : ((List.range n).map fun j => uint (x j) * uint (y j)).sum =
      (((List.range n).map fun j => (x j).toNat * (y j).toNat).sum : Nat) := by
    simp only [uint_mul_uint, Nat.cast_list_sum, List.map_map, Function.comp_def]
  rw [trunc_sumTo, hcast, BitVec.ofInt_natCast]

/-- A multiply-sum adds the truncated sum `m k` of its products to the addend, whichever way `r` it reads the addend. -/
theorem writesElements_moduloSum {s : State} (ha : s.vecAvailable = true) (vd : VReg) {r : Word → Int}
    (hr : ∀ x, trunc 32 (r x) = x) (c : Nat → Word) {z : Nat → Int} {m : Nat → Word}
    (hz : ∀ k, trunc 32 (z k) = m k) :
    WritesElements 32 vd s (writeVr s vd (vecOf 32 fun k => trunc 32 (r (c k) + z k))) fun k => c k + m k := by
  simp only [trunc_add, hr, hz]
  exact writesElements_writeVr (.inr (.inr rfl)) ha vd _

/-- Settles O33: truncation is additive and multiplicative, and each multiply-sum adds its list of products to the
addend. -/
theorem multiplySumModulo : Obligations.multiply_sum_modulo := by
  intro s vd va vb vc ha
  have hlow : exec (.vmladduhm vd va vb vc) s = writeVr s vd (vecOf 16 fun k =>
      elem 16 (s.getVr va) k * elem 16 (s.getVr vb) k + elem 16 (s.getVr vc) k) := by
    rw [show exec (.vmladduhm vd va vb vc) s = execVmladduhm vd va vb vc s from rfl]
    simp only [execVmladduhm, trunc_add, trunc_mul, trunc_uint]
  have sums {r : Word → Int} (hr : ∀ x, trunc 32 (r x) = x) {z : Nat → Int} {m : Nat → Word}
      (hz : ∀ k, trunc 32 (z k) = m k) := writesElements_moduloSum ha vd hr (elem 32 (s.getVr vc)) hz
  exact ⟨hlow ▸ writesElements_writeVr (.inr (.inl rfl)) ha vd _,
    sums trunc_uint fun _ => trunc_sumTo_uint 32 4 _ _, sums trunc_sint fun _ => trunc_sumTo 32 4 _,
    sums trunc_uint fun _ => trunc_sumTo_uint 32 2 _ _, sums trunc_sint fun _ => trunc_sumTo 32 2 _⟩

/-! The saturating multiply-sums. -/

/-- Settles O34: one clamp of the addend plus both products, signed or unsigned. -/
theorem multiplySumSaturating : Obligations.multiply_sum_saturating := by
  intro s vd va vb vc ha
  have signed : WritesSigned 32 vd s (exec (.vmsumshs vd va vb vc) s) fun k =>
      sint (elem 32 (s.getVr vc) k) + halfProducts sint (s.getVr va) (s.getVr vb) k :=
    writesSigned_satS (.inr (.inr rfl)) ha vd _
  have unsigned : WritesUnsigned 32 vd s (exec (.vmsumuhs vd va vb vc) s) fun k =>
      uint (elem 32 (s.getVr vc) k) + halfProducts uint (s.getVr va) (s.getVr vb) k :=
    writesUnsigned_satU (.inr (.inr rfl)) ha vd _
  simp only [halfProducts_eq_add, ← add_assoc] at signed unsigned
  exact ⟨signed, unsigned⟩

/-! The even and odd multiplies. -/

/-- A product of two signed numbers is at most `2^(2w-2)` in size, so it fits in `2w` bits (R230, R231, R234, R235). -/
theorem toInt_trunc_mul {w : Nat} (hw : 0 < w) (x y : BitVec w) :
    (trunc (2 * w) (sint x * sint y)).toInt = x.toInt * y.toInt := by
  have hlow := BitVec.le_toInt_mul_toInt (x := x) (y := y)
  have hhigh := BitVec.toInt_mul_toInt_le (x := x) (y := y)
  have hpow : (2 : Int) ^ (2 * w - 1) = 2 * 2 ^ (w * 2 - 2) := by
    rw [← pow_succ']; congr 1; omega
  have hpos : (0 : Int) < 2 ^ (w * 2 - 2) := by positivity
  exact trunc_toInt (by omega) (by rw [hpow, sint, sint]; omega) (by rw [hpow, sint, sint]; omega)

/-- A product of two unsigned numbers is below `2^(2w)` (R232, R233, R236, R237). -/
theorem toNat_trunc_mul {w : Nat} (x y : BitVec w) :
    (trunc (2 * w) (uint x * uint y)).toNat = x.toNat * y.toNat := by
  have hfits : x.toNat * y.toNat < 2 ^ (2 * w) := Nat.mul_comm 2 w ▸ BitVec.toNat_mul_toNat_lt
  rw [uint_mul_uint, trunc, BitVec.ofInt_natCast, BitVec.toNat_ofNat, Nat.mod_eq_of_lt hfits]

/-- Each multiply writes the products of the elements at the even or at the odd places. -/
theorem exec_evenOddMultiply {vd va vb : VReg} {odd : Nat} {sb sh ub uh : Instr} (s : State)
    (h : (odd, sb, sh, ub, uh) ∈
      [(0, Instr.vmulesb vd va vb, Instr.vmulesh vd va vb, Instr.vmuleub vd va vb, Instr.vmuleuh vd va vb),
        (1, Instr.vmulosb vd va vb, Instr.vmulosh vd va vb, Instr.vmuloub vd va vb, Instr.vmulouh vd va vb)]) :
    exec sb s = writeVr s vd (multiplyElements 8 sint odd (s.getVr va) (s.getVr vb)) ∧
      exec sh s = writeVr s vd (multiplyElements 16 sint odd (s.getVr va) (s.getVr vb)) ∧
      exec ub s = writeVr s vd (multiplyElements 8 uint odd (s.getVr va) (s.getVr vb)) ∧
      exec uh s = writeVr s vd (multiplyElements 16 uint odd (s.getVr va) (s.getVr vb)) := by
  simp only [List.mem_cons, Prod.mk.injEq, List.not_mem_nil, or_false] at h
  obtain ⟨rfl, rfl, rfl, rfl, rfl⟩ | ⟨rfl, rfl, rfl, rfl, rfl⟩ := h
  all_goals exact ⟨rfl, rfl, rfl, rfl⟩

/-- Settles O35: each element written is a truncated product, and the product fits. -/
theorem evenOddMultiplies : Obligations.even_odd_multiplies := by
  intro s vd va vb odd sb sh ub uh ha hfamily
  obtain ⟨hsb, hsh, hub, huh⟩ := exec_evenOddMultiply s hfamily
  rw [hsb, hsh, hub, huh]
  have h16 (f : Nat → BitVec 16) := writesElements_writeVr (.inr (.inl rfl)) ha vd f
  have h32 (f : Nat → BitVec 32) := writesElements_writeVr (.inr (.inr rfl)) ha vd f
  exact ⟨⟨_, h16 _, fun k _ => toInt_trunc_mul (w := 8) (by decide) _ _⟩,
    ⟨_, h32 _, fun k _ => toInt_trunc_mul (w := 16) (by decide) _ _⟩,
    ⟨_, h16 _, fun k _ => toNat_trunc_mul (w := 8) _ _⟩, ⟨_, h32 _, fun k _ => toNat_trunc_mul (w := 16) _ _⟩⟩

/-! The sums across. -/

/-- A cleared word is the clamp of 0, which sets no flag. -/
theorem satS_zero {n : Nat} : satS n 0 = (0, false) := by
  have hp : (0 : Int) < 2 ^ (n - 1) := by positivity
  rw [satS, signedMax_eq, signedMin_eq, if_neg (by omega), if_neg (by omega)]
  rfl

theorem satS_ite_zero {n : Nat} (p : Prop) [Decidable p] (z : Int) :
    satS n (if p then z else 0) = if p then satS n z else (0, false) := by
  rw [apply_ite (satS n), satS_zero]

/-- A word below 96 zero bits is word 3 of a register whose other words are zero. -/
theorem zero_append_eq_vecOf (x : Word) : (0#96 ++ x : Vec) = vecOf 32 fun k => if k = 3 then x else 0 := by
  refine vec_ext 32 (.inr (.inr rfl)) fun k hk => ?_
  rw [elem32_vecOf _ hk, elem]
  split
  next h => subst h; exact BitVec.extractLsb'_append_eq_right
  next h =>
    refine BitVec.eq_of_getLsbD_eq fun i hi => ?_
    have habove : ¬ 128 - 32 * (k + 1) + i < 32 := by omega
    rw [BitVec.getLsbD_extractLsb', BitVec.getLsbD_append, if_neg habove]
    simp

/-- A clamped sum in word 3 below three zero words is a vector of clamps (R238). -/
theorem lastWord_eq_vecOfSat (z : Int) :
    ((0#96 ++ (satS 32 z).1 : Vec), (satS 32 z).2) = vecOfSat 32 fun k => satS 32 (if k = 3 then z else 0) := by
  simp only [satS_ite_zero, vecOfSat, zero_append_eq_vecOf, apply_ite Prod.fst]
  simp [List.range_succ]

theorem exec_vsumsws (vd va vb : VReg) (s : State) : exec (.vsumsws vd va vb) s =
    writeVrSat s vd (vecOfSat 32 fun k => satS 32 (if k = 3 then
      (elem 32 (s.getVr vb) 3).toInt + (elem 32 (s.getVr va) 0).toInt + (elem 32 (s.getVr va) 1).toInt +
        (elem 32 (s.getVr va) 2).toInt + (elem 32 (s.getVr va) 3).toInt else 0)) := by
  rw [show exec (.vsumsws vd va vb) s = execVsumsws vd va vb s from rfl, ← lastWord_eq_vecOfSat]
  simp only [execVsumsws, sumAcrossAll, sumTo, sint, zero_add, ← add_assoc]

theorem exec_vsum2sws (vd va vb : VReg) (s : State) : exec (.vsum2sws vd va vb) s =
    writeVrSat s vd (vecOfSat 32 fun k => satS 32 (if k % 2 = 1 then
      (elem 32 (s.getVr vb) k).toInt + (elem 32 (s.getVr va) (k - 1)).toInt + (elem 32 (s.getVr va) k).toInt
        else 0)) := by
  have hsum (k : Nat) (hk : k % 2 = 1) : sumAcrossHalf (s.getVr va) (s.getVr vb) (k / 2) =
      satS 32 ((elem 32 (s.getVr vb) k).toInt + (elem 32 (s.getVr va) (k - 1)).toInt +
        (elem 32 (s.getVr va) k).toInt) := by
    rw [sumAcrossHalf, show 2 * (k / 2) + 1 = k by omega, show 2 * (k / 2) = k - 1 by omega]; rfl
  simp only [satS_ite_zero]
  exact congrArg (fun f => writeVrSat s vd (vecOfSat 32 f)) (funext fun k => ite_congr rfl (hsum k) fun _ => rfl)

/-- Settles O36: every instruction writes one clamp of an exact integer per word, that of 0 where a word is cleared. -/
theorem sumsAcross : Obligations.sums_across := by
  intro s vd va vb ha
  have signed (z : Nat → Int) := writesSigned_satS (.inr (.inr rfl)) ha vd z
  have unsigned (z : Nat → Int) := writesUnsigned_satU (.inr (.inr rfl)) ha vd z
  rw [exec_vsumsws, exec_vsum2sws]
  simp only [← sumTo_eq_sum]
  exact ⟨signed _, signed _, signed _, signed _, unsigned _⟩

end Sys2Proof.Proofs
end

section
/-! PROOFS. The step and the run (60_exceptions.md R402 to R415): what a fetch answers at each stage, which instructions
complete, and that a run is decided by its last step. -/

namespace Sys2Proof.Proofs
open Sys2Proof Sys2Proof.Machine

/-! What a step answers, stage by stage (R409). -/

section
variable {s : State}

theorem fetchesStored_eq_false_iff : s.fetchesStored = false ↔ ∀ j, j < 4 → s.pc.toNat + j ∉ s.stored := by
  rw [← Bool.not_eq_true, fetchesStored_iff]
  push Not
  rfl

/-- The step of a state whose fetch answers an instruction is that instruction. -/
theorem step_of_fetch_ok {i : Instr} (h : s.fetch = .ok i) : Sys2Proof.Machine.step s = exec i s := by
  change s.stepOnce = _
  rw [State.stepOnce, h]

/-- The step of a state whose fetch is stopped answers what the fetch answers. -/
theorem step_of_fetch_error {r : Result} (h : s.fetch = .error r) : Sys2Proof.Machine.step s = r := by
  change s.stepOnce = _
  rw [State.stepOnce, h]

variable (hpc : s.pc.toNat % 4 = 0)
include hpc

theorem step_of_inaccessible (ha : s.accessible s.pc.toNat 4 = false) :
    Sys2Proof.Machine.step s = .fault (.memFault s.pc .fetch) :=
  step_of_fetch_error (by simp [State.fetch, (pcAligned_iff s).2 hpc, ha, raise])

variable (ha : s.accessible s.pc.toNat 4 = true)
include ha

theorem step_of_stored (hst : ∃ j, j < 4 ∧ s.pc.toNat + j ∈ s.stored) :
    Sys2Proof.Machine.step s = .refused (.storedCode s.pc) :=
  step_of_fetch_error (by simp [State.fetch, (pcAligned_iff s).2 hpc, ha, (fetchesStored_iff s).2 hst])

variable (hst : ∀ j, j < 4 → s.pc.toNat + j ∉ s.stored)
include hst

theorem step_of_undecodable {e : DecodeReject} (hd : decode s.fetchWord = .error e) :
    Sys2Proof.Machine.step s = .refused (.undecodable s.fetchWord e) :=
  step_of_fetch_error
    (by simp [State.fetch, (pcAligned_iff s).2 hpc, ha, fetchesStored_eq_false_iff.2 hst, hd])

theorem step_of_decode {i : Instr} (hd : decode s.fetchWord = .ok i) : Sys2Proof.Machine.step s = exec i s :=
  step_of_fetch_ok ((fetch_eq_ok s i).2 ⟨(pcAligned_iff s).2 hpc, ha, fetchesStored_eq_false_iff.2 hst, hd⟩)

end

/-- Settles O6: a fetch that no stage stops answers the instruction that the word decodes to. -/
theorem stepRunsDecodedInstruction : Obligations.step_runs_decoded_instruction :=
  fun _ _ hpc ha hst hd => step_of_decode hpc ha hst hd

/-! The operands that D6 excludes. -/

/-- Settles O15: the operand check stands before every other effect of the five instructions. -/
theorem excludedOperandsRefused : Obligations.excluded_operands_refused := by
  intro s
  have refused {p : Prop} [Decidable p] (h : ¬p) (r : Result) :
      whenOperandsAllowed (decide p) r = .refused .excludedOperand := by
    rw [decide_eq_false h, whenOperandsAllowed_bad]
  exact ⟨fun _ _ _ hu => refused (by omega) _, fun _ _ _ hu => refused (by omega) _,
    fun _ _ _ hu => refused (by omega) _, fun _ _ _ => ⟨rfl, rfl⟩⟩

/-! Which instructions complete. -/

section
variable {i : Instr} {s : State}

/-- Without the vector unit a well-formed instruction that is no data-stream one ends in the event of R405: a splat's
operand check passes, and both ends of the bit shifts need the unit. -/
theorem exec_unavailable (hwf : i.wf = true) (h : s.vecAvailable = false) (hi : isStreamInstr i = false) :
    exec i s = .fault .vecUnavailable := by
  have allowed {ok : Bool} (hok : ok = true) (r : Result) : whenOperandsAllowed ok (whenAvailable s r) =
      .fault .vecUnavailable := by
    rw [hok, whenOperandsAllowed_ok, whenAvailable_unavailable h]
  have shifted (vd : VReg) (b v : Vec) : writeShifted s vd b v = .fault .vecUnavailable := by
    unfold writeShifted
    split <;> exact whenAvailable_unavailable h _
  cases i with
  | dss | dst | dstst => cases hi
  | vspltb | vsplth | vspltw => exact allowed hwf _
  | vsl | vsr => exact shifted _ _ _
  | _ => exact whenAvailable_unavailable h _

/-- The data-stream instructions complete whatever the vector unit is. -/
theorem exec_stream_completes (hwf : i.wf = true) (hi : isStreamInstr i = true) : ∃ t, exec i s = .next t := by
  have allowed {ok : Bool} (hok : ok = true) (t : State) : whenOperandsAllowed ok (finishStream t) = .next t.advance := by
    rw [hok, whenOperandsAllowed_ok]; rfl
  cases i with
  | dss => exact ⟨_, rfl⟩
  | dst | dstst => exact ⟨_, allowed hwf _⟩
  | _ => cases hi

/-- With the vector unit, an instruction without a data access completes. -/
theorem exec_completes (hwf : i.wf = true) (h : s.vecAvailable = true) (hacc : accessOf i s = none) :
    ∃ t, exec i s = .next t := by
  have allowed {ok : Bool} (hok : ok = true) (t : State) : whenOperandsAllowed ok (finish s t) = .next t.advance := by
    rw [hok, whenOperandsAllowed_ok, finish_available h]
  have shifted (vd : VReg) (b v : Vec) : ∃ t, writeShifted s vd b v = .next t := by
    unfold writeShifted
    split <;> exact ⟨_, finish_available h _⟩
  cases i with
  | lvebx | lvehx | lvewx | lvx | lvxl | stvebx | stvehx | stvewx | stvx | stvxl => cases hacc
  | dss | dst | dstst => exact exec_stream_completes hwf rfl
  | vspltb | vsplth | vspltw => exact ⟨_, allowed hwf _⟩
  | vsl | vsr => exact shifted _ _ _
  | _ => exact ⟨_, finish_available h _⟩

/-- An instruction with a data access is that access: what it leaves is decided before, and the bytes it touches decide
whether it completes. -/
theorem exec_eq_access {ea : Word} {n : Nat} {k : AccessKind} (hacc : accessOf i s = some (ea, n, k)) :
    ∃ after, exec i s = access s ea n k after := by
  cases i with
  | lvebx | lvehx | lvewx | lvx | lvxl | stvebx | stvehx | stvewx | stvx | stvxl => cases hacc; exact ⟨_, rfl⟩
  | _ => cases hacc

end

/-- Settles O14: an instruction is its data access, or has none and completes. -/
theorem instructionsCompleteOrFault : Obligations.instructions_complete_or_fault := by
  intro i s hwf h
  split
  next hacc => exact exec_completes hwf h hacc
  next hacc =>
    obtain ⟨after, hexec⟩ := exec_eq_access hacc
    rw [hexec]
    exact ⟨fun ha => ⟨_, access_available h ha _ _⟩, fun ha => access_outside h ha _ _⟩

/-- Settles O13: with the unit disabled the instructions part into the data-stream ones and the others; with it enabled
an instruction ends in a next state or in a memory fault. -/
theorem vectorUnitUnavailable : Obligations.vector_unit_unavailable := by
  intro i s hwf
  refine ⟨exec_unavailable hwf, fun _ hi => exec_stream_completes hwf hi, fun h hfault => ?_⟩
  cases hacc : accessOf i s with
  | none =>
    obtain ⟨t, ht⟩ := exec_completes hwf h hacc
    simp [ht] at hfault
  | some a =>
    obtain ⟨ea, n, k⟩ := a
    obtain ⟨after, hexec⟩ := exec_eq_access hacc
    cases ha : s.accessible ea.toNat n with
    | true => simp [hexec, access_available h ha] at hfault
    | false => simp [hexec, access_outside h ha] at hfault

/-- Settles O7: the stages of the fetch in their order, then the vector unit, then the data access. -/
theorem eventPriority : Obligations.event_priority := by
  intro s hpc
  refine ⟨step_of_inaccessible hpc, fun ha hst => ⟨fun e => step_of_undecodable hpc ha hst, fun i hd => ?_⟩⟩
  rw [step_of_decode hpc ha hst hd]
  obtain ⟨-, hwf⟩ := encodeOfDecode _ _ hd
  refine ⟨exec_unavailable hwf, fun ea n k hacc h hout => ?_⟩
  obtain ⟨after, hexec⟩ := exec_eq_access hacc
  rw [hexec, access_outside h hout]

/-! What a step leaves. -/

theorem Leaves.pc {i : Instr} {s t : State} (h : Leaves i s t) : t.pc = s.pc + 4 := by cases h <;> simp

/-- Settles O9: a step that answers a next state fetched an instruction, and whatever state that leaves has `pc + 4`. -/
theorem pcAdvancesByFour : Obligations.pc_advances_by_four := by
  intro s t h
  cases hf : s.fetch with
  | error r =>
    rw [step_of_fetch_error hf] at h
    exact absurd (h ▸ hf) (fetch_error_ne_next s t)
  | ok i =>
    rw [step_of_fetch_ok hf] at h
    obtain ⟨haligned, -, -, hd⟩ := (fetch_eq_ok s i).1 hf
    have hpc : s.pc.toNat % 4 = 0 := (pcAligned_iff s).1 haligned
    have hnext : t.pc.toNat = (s.pc.toNat + 4) % 2 ^ 32 := by rw [(leaves_of_exec h).pc]; exact BitVec.toNat_add s.pc 4
    exact ⟨hpc, ⟨i, hd, h⟩, hnext, by omega⟩

/-- A quadword store remembers its 16 bytes, in little-endian mode as two doublewords. -/
theorem mem_stored_memWriteQuad (s : State) (a b : Nat) (v : Vec) :
    b ∈ (s.memWriteQuad a v).stored ↔ b ∈ s.stored ∨ a ≤ b ∧ b < a + 16 := by
  have hboth : (a + 8 ≤ b ∧ b < a + 8 + 8) ∨ (a ≤ b ∧ b < a + 8) ↔ a ≤ b ∧ b < a + 16 := by omega
  unfold State.memWriteQuad
  split
  · rw [State.memWrite_stored, mem_addAddresses, State.memWrite_stored, mem_addAddresses, ← or_assoc, hboth, or_comm]
  · rw [State.memWrite_stored, mem_addAddresses, or_comm]

/-- The remembered addresses depend on stores alone: no other instruction leaves another list. -/
theorem Leaves.stored {i : Instr} {s t : State} (h : Leaves i s t)
    (hi : ∀ ea n, accessOf i s ≠ some (ea, n, .store)) : t.stored = s.stored := by
  cases h with
  | element hk hacc v => exact absurd hacc (hi _ _)
  | quad hacc v => exact absurd hacc (hi _ _)
  | _ => simp

/-- A store remembers exactly the bytes of its access. -/
theorem mem_stored_of_store {i : Instr} {s t : State} {ea : Word} {n : Nat}
    (hacc : accessOf i s = some (ea, n, .store)) (h : exec i s = .next t) (a : Nat) :
    a ∈ t.stored ↔ a ∈ s.stored ∨ ea.toNat ≤ a ∧ a < ea.toNat + n := by
  cases i with
  | stvebx | stvehx | stvewx =>
    cases hacc
    obtain ⟨-, -, rfl⟩ := access_eq_next h
    simp only [State.advance_stored, State.memWrite_stored, mem_addAddresses]
    exact or_comm
  | stvx | stvxl =>
    cases hacc
    obtain ⟨-, -, rfl⟩ := access_eq_next h
    exact mem_stored_memWriteQuad s _ a _
  | _ => cases hacc

/-- Settles O8: the fetch of a stored byte is refused, a store adds the bytes of its access and nothing else adds any. -/
theorem storedCodeRefused : Obligations.stored_code_refused := by
  refine ⟨fun s hpc ha hst => step_of_stored hpc ha hst, fun i s t h a => ?_⟩
  by_cases hstore : ∃ ea n, accessOf i s = some (ea, n, .store)
  · obtain ⟨ea, n, hacc⟩ := hstore
    have hthis : StoresTo i s a ↔ ea.toNat ≤ a ∧ a < ea.toNat + n := by simp [StoresTo, hacc]
    rw [mem_stored_of_store hacc h, hthis]
  · push Not at hstore
    have hnone : ¬StoresTo i s a := fun ⟨ea, n, hacc, _⟩ => hstore ea n hacc
    simp [(leaves_of_exec h).stored hstore, hnone]

/-! A run (R410, R415). -/

section
variable {pcEnd : Word} {s : State}

theorem run_of_pc_eq (h : s.pc = pcEnd) (n : Nat) : run pcEnd n s = .ended s := by
  cases n <;> exact if_pos h

variable (h : s.pc ≠ pcEnd)
include h

theorem run_succ_of_next {t : State} (hstep : Sys2Proof.Machine.step s = .next t) (n : Nat) :
    run pcEnd (n + 1) s = run pcEnd n t := by
  simp only [run, if_neg h, hstep]

theorem run_succ_of_fault {f : Fault} (hstep : Sys2Proof.Machine.step s = .fault f) (n : Nat) :
    run pcEnd (n + 1) s = .faulted f s := by
  simp only [run, if_neg h, hstep]

theorem run_succ_of_refused {r : Refusal} (hstep : Sys2Proof.Machine.step s = .refused r) (n : Nat) :
    run pcEnd (n + 1) s = .stuck r s := by
  simp only [run, if_neg h, hstep]

end

/-- Settles O18, by induction on the bound: a run of no step ends or goes on, and every other run that is not at its end
either ends with its first step or is the run from the next state. -/
theorem runEndsAsItsLastStep : Obligations.run_ends_as_its_last_step := by
  intro pcEnd n s u
  by_cases hpc : s.pc = pcEnd
  · simp only [run_of_pc_eq hpc, reduceCtorEq, RunEnd.ended.injEq, false_imp_iff, implies_true, and_true]
    rintro rfl
    exact hpc
  · induction n generalizing s with
    | zero => simp [run, hpc]
    | succ n ih =>
      cases hstep : Sys2Proof.Machine.step s with
      | next t =>
        rw [run_succ_of_next hpc hstep]
        by_cases ht : t.pc = pcEnd
        · simp only [run_of_pc_eq ht, reduceCtorEq, RunEnd.ended.injEq, false_imp_iff, implies_true, hpc,
            and_true]
          rintro rfl
          exact ht
        · obtain ⟨hended, hfaulted, hstuck, -⟩ := ih t ht
          exact ⟨hended, hfaulted, hstuck, fun h => absurd h hpc⟩
      | fault f =>
        rw [run_succ_of_fault hpc hstep]
        refine ⟨nofun, ?_, nofun, fun h => absurd h hpc⟩
        rintro e ⟨⟩
        exact ⟨hpc, hstep⟩
      | refused r =>
        rw [run_succ_of_refused hpc hstep]
        refine ⟨nofun, nofun, ?_, fun h => absurd h hpc⟩
        rintro e ⟨⟩
        exact ⟨hpc, hstep⟩

end Sys2Proof.Proofs
end

section
/-! PROOFS. The words that the decoder refuses (30_encoding.md R93, R94), and that only memory accesses see the endian
mode (20_memory.md R54). -/

namespace Sys2Proof.Proofs
open Sys2Proof Sys2Proof.Machine

/-! Unassigned words. -/

/-- A number outside a table's list of rows has no row. -/
theorem lookup_eq_none {f : Nat → Word → Option (Except DecodeReject Instr)} {w : Word} {n : Nat} {l : List Nat}
    (hrows : ∀ n r, f n w = some r → n ∈ l) (hn : n ∉ l) : f n w = none :=
  Option.eq_none_iff_forall_ne_some.2 fun r hr => hn (hrows n r hr)

/-- Settles O4: each table has rows at the listed numbers alone, and the decoder asks the tables in the order of R88. -/
theorem unassignedWordsRefused : Obligations.unassigned_words_refused := by
  intro w
  refine ⟨fun h4 h31 => ?_, fun h31 hn => ?_, fun h4 hbit hn => ?_, fun h4 hbit hvx hvxr => ?_⟩
  · rw [decode, if_neg h31, if_neg h4]
  · have hnone := lookup_eq_none (f := lookupX) (w := w) (fun n r h => by
      unfold lookupX at h
      split at h <;> cases h
      all_goals decide) hn
    rw [decode, if_pos h31, hnone]; rfl
  · have hnone := lookup_eq_none (f := lookupVA) (w := w) (fun n r h => by
      unfold lookupVA at h
      split at h <;> cases h
      all_goals decide) hn
    rw [decode, if_neg (by simp [h4]), if_pos h4, if_pos hbit, hnone]; rfl
  · have hnoneVX := lookup_eq_none (f := lookupVX) (w := w) (fun n r h => by
      unfold lookupVX at h
      split at h <;> cases h
      all_goals decide) hvx
    have hnoneVXR := lookup_eq_none (f := lookupVXR) (w := w) (fun n r h => by
      unfold lookupVXR at h
      split at h <;> cases h
      all_goals decide) hvxr
    rw [decode, if_neg (by simp [h4]), if_pos h4, if_neg (Bool.eq_false_iff.1 hbit), hnoneVX, hnoneVXR]; rfl

/-! Zero fields and excluded operands. -/

/-- Every reader of the X-form table asks for a zero in bit 31 (R82, R93). -/
theorem getLsbD_zero_of_primary_31 {w : Word} {i : Instr} (h : decode w = .ok i) (hp : fieldPrimary w = 31) :
    w.getLsbD 0 = false := by
  obtain ⟨-, hrow⟩ | ⟨h4, -⟩ := decode_eq_ok.1 h
  · generalize hr : Except.ok i = r at hrow
    cases rowX_of_lookupX hrow with
    | x | stream | dss =>
      obtain ⟨hzero, -, -⟩ := checkReserved_eq_ok.1 hr.symm
      simp only [Bool.and_eq_true, Bool.not_eq_true'] at hzero
      tauto
  · rw [hp] at h4; cases h4

/-- Settles O5: a word that decodes is the encoding of a well-formed instruction, and its zero fields are read off the
form of that instruction; `dssall` with any stream field is the encoding of `dss`. -/
theorem reservedFieldsAreZero : Obligations.reserved_fields_are_zero := by
  refine ⟨fun w i h => ⟨getLsbD_zero_of_primary_31 h, ?_⟩, fun strm => decodeOfEncode (.dss strm true) rfl⟩
  obtain ⟨rfl, hwf⟩ := encodeOfDecode w i h
  cases i with
  | dss => exact ⟨fun _ => formStream_zero _ _ _ _ _, formStream_A _ _ _ _ _, formStream_B _ _ _ _ _⟩
  | dst | dstst => exact ⟨fun _ => formStream_zero _ _ _ _ _, of_decide_eq_true hwf⟩
  | vexptefp | vlogefp | vrefp | vrsqrtefp | vrfim | vrfin | vrfip | vrfiz | vupkhpx | vupkhsb | vupkhsh | vupklpx
  | vupklsb | vupklsh => exact ⟨nofun, formVX_A _ _ _ _⟩
  | vspltisb | vspltish | vspltisw => exact ⟨nofun, formVX_B _ _ _ _⟩
  | mfvscr => exact ⟨nofun, formVX_A _ _ _ _, formVX_B _ _ _ _⟩
  | mtvscr => exact ⟨nofun, formVX_D _ _ _ _, formVX_A _ _ _ _⟩
  | vsldoi => exact ⟨nofun, formVA_Rc _ _ _ _ _⟩
  | vspltb | vsplth | vspltw => exact ⟨nofun, of_decide_eq_true hwf⟩
  | _ => exact ⟨nofun, trivial⟩

/-! The endian mode. -/

/-- The state in another endian mode. -/
def withLe (b : Bool) (s : State) : State := { s with le := b }

section
variable (s : State) (b : Bool)

/-- An end that leaves the same state but for the mode is the same end but for the mode. -/
theorem finish_withLe {t t' : State} (h : t' = withLe b t) :
    finish (withLe b s) t' = mapNext (withLe b) (finish s t) := by
  subst h
  unfold finish whenAvailable
  rw [apply_ite (mapNext (withLe b))]
  rfl

theorem writeVrCr6_withLe (vd : VReg) (rc : Bool) (v : Vec × BitVec 4) :
    writeVrCr6 (withLe b s) vd rc v = mapNext (withLe b) (writeVrCr6 s vd rc v) := by
  cases rc <;> exact finish_withLe s b rfl

theorem writeShifted_withLe (vd : VReg) (x v : Vec) :
    writeShifted (withLe b s) vd x v = mapNext (withLe b) (writeShifted s vd x v) := by
  unfold writeShifted
  split <;> exact finish_withLe s b rfl

theorem whenOperandsAllowed_withLe (ok : Bool) {r r' : Result} (h : r' = mapNext (withLe b) r) :
    whenOperandsAllowed ok r' = mapNext (withLe b) (whenOperandsAllowed ok r) := by
  subst h
  cases ok <;> rfl

end

/-- Settles O19: no operand of an instruction without a data access depends on the mode, and neither does its end. -/
theorem endianModeOnlyInMemory : Obligations.endian_mode_only_in_memory := by
  intro i s b hacc
  show exec i (withLe b s) = mapNext (withLe b) (exec i s)
  cases i with
  | lvebx | lvehx | lvewx | lvx | lvxl | stvebx | stvehx | stvewx | stvx | stvxl => cases hacc
  | dss strm a => cases a <;> rfl
  | dst | dstst => exact whenOperandsAllowed_withLe b _ rfl
  | vspltb | vsplth | vspltw => exact whenOperandsAllowed_withLe b _ (finish_withLe s b rfl)
  | vsl | vsr => exact writeShifted_withLe s b _ _ _
  | vcmpequb | vcmpequh | vcmpequw | vcmpgtsb | vcmpgtsh | vcmpgtsw | vcmpgtub | vcmpgtuh | vcmpgtuw | vcmpbfp
  | vcmpeqfp | vcmpgefp | vcmpgtfp => exact writeVrCr6_withLe s b _ _ _
  | _ => exact finish_withLe s b rfl

end Sys2Proof.Proofs
end

section
/-! PROOFS. Logical operations, rotates and shifts (47_logical_shift_rotate.md R250 to R273), merges, permutes, packs,
splats and unpacks (48_permute_pack.md R280 to R308): what an instruction writes is known element by element, and an
element of a shifted or joined register is found by its first bit. -/

namespace Sys2Proof.Proofs
open Sys2Proof Sys2Proof.Machine

/-! Writing a register. -/

section
variable {s : State} (ha : s.vecAvailable = true) (vd : VReg)
include ha

theorem writesRegister_writeVr (v : Vec) : WritesRegister vd s (writeVr s vd v) v :=
  ⟨_, writeVr_available ha vd v, State.getVr_setVr_same s vd v, rfl, rfl, rfl, registerFrame_setVr s vd v⟩

/-- A register is written element by element, however its value was computed. -/
theorem writesElements_of_elem {w : Nat} (hw : w = 8 ∨ w = 16 ∨ w = 32) {v : Vec} {f : Nat → BitVec w}
    (hv : ∀ k, k < 128 / w → elem w v k = f k) : WritesElements w vd s (writeVr s vd v) f := by
  have hbuilt : v = vecOf w f := vec_ext w hw fun k hk => (hv k hk).trans (elem_vecOf w f k hw hk).symm
  exact hbuilt ▸ writesElements_writeVr hw ha vd f

end

/-! Logical operations. -/

/-- Settles O37: each instruction is the operation on registers, which acts on each bit. -/
theorem logicalAndSelect : Obligations.logical_and_select := by
  intro s vd va vb vc i f ha h
  obtain ⟨rfl, rfl⟩ | ⟨rfl, rfl⟩ | ⟨rfl, rfl⟩ | ⟨rfl, rfl⟩ | ⟨rfl, rfl⟩ | ⟨rfl, rfl⟩ := h
  all_goals refine ⟨_, writesRegister_writeVr ha vd _, fun n hn => ?_⟩
  on_goal 6 => cases hc : (s.getVr vc)[n] <;> simp [hn, hc]
  all_goals simp [hn]

/-! Rotates and shifts of elements. -/

section
variable {w : Nat} (x : BitVec w) (c : Nat)

/-- Bit `n` moves `c` places up, around the end of the element (R257 to R259). -/
theorem getLsbD_rotateLeft_count {n : Nat} (hn : n < w) :
    (x.rotateLeft (c % w)).getLsbD ((n + c) % w) = x.getLsbD n := by
  have hc : c % w < w := Nat.mod_lt c (by omega)
  rw [BitVec.getLsbD_rotateLeft, Nat.mod_mod]
  by_cases hwrap : n + c % w < w
  · have hpos : (n + c) % w = n + c % w := by rw [← Nat.add_mod_mod, Nat.mod_eq_of_lt hwrap]
    simp [hpos, hwrap]
  · have hpos : (n + c) % w = n + c % w - w := by
      rw [← Nat.add_mod_mod, Nat.mod_eq_sub_mod (by omega), Nat.mod_eq_of_lt (by omega)]
    have hback : w - c % w + (n + c % w - w) = n := by omega
    rw [hpos, decide_eq_true (by omega), cond_true, hback]

theorem toNat_shiftLeft_count : (x <<< c).toNat = x.toNat * 2 ^ c % 2 ^ w := by
  rw [BitVec.toNat_shiftLeft, Nat.shiftLeft_eq]

theorem toNat_ushiftRight_count : (x >>> c).toNat = x.toNat / 2 ^ c := by
  rw [BitVec.toNat_ushiftRight, Nat.shiftRight_eq_div_pow]

theorem toInt_sshiftRight_count : (x.sshiftRight c).toInt = x.toInt / 2 ^ c := by
  rw [BitVec.toInt_sshiftRight, Int.shiftRight_eq_div_pow]
  norm_cast

end

/-- Each instruction of the family writes its shared operation at its element width. -/
theorem exec_rotateShift {vd va vb : VReg} {w : Nat} {rl sl sr sra : Instr} (s : State)
    (h : (w, rl, sl, sr, sra) ∈
      [(8, Instr.vrlb vd va vb, Instr.vslb vd va vb, Instr.vsrb vd va vb, Instr.vsrab vd va vb),
        (16, Instr.vrlh vd va vb, Instr.vslh vd va vb, Instr.vsrh vd va vb, Instr.vsrah vd va vb),
        (32, Instr.vrlw vd va vb, Instr.vslw vd va vb, Instr.vsrw vd va vb, Instr.vsraw vd va vb)]) :
    (w = 8 ∨ w = 16 ∨ w = 32) ∧
      exec rl s = writeVr s vd (rotateElements w (s.getVr va) (s.getVr vb)) ∧
      exec sl s = writeVr s vd (shiftLeftElements w (s.getVr va) (s.getVr vb)) ∧
      exec sr s = writeVr s vd (shiftRightElements w (s.getVr va) (s.getVr vb)) ∧
      exec sra s = writeVr s vd (shiftSignedElements w (s.getVr va) (s.getVr vb)) := by
  simp only [List.mem_cons, Prod.mk.injEq, List.not_mem_nil, or_false] at h
  obtain ⟨rfl, rfl, rfl, rfl, rfl⟩ | ⟨rfl, rfl, rfl, rfl, rfl⟩ | ⟨rfl, rfl, rfl, rfl, rfl⟩ := h
  all_goals exact ⟨by decide, rfl, rfl, rfl, rfl⟩

/-- Settles O38: each instruction writes the elements of its shared operation, by the count of R250. -/
theorem rotatesAndElementShifts : Obligations.rotates_and_element_shifts := by
  intro s vd va vb w rl sl sr sra ha hfamily
  obtain ⟨hw, hrl, hsl, hsr, hsra⟩ := exec_rotateShift s hfamily
  have writes (f : Nat → BitVec w) : WritesElements w vd s (writeVr s vd (vecOf w f)) f :=
    writesElements_writeVr hw ha vd f
  rw [hrl, hsl, hsr, hsra]
  exact ⟨⟨_, writes _, fun k n _ hn => getLsbD_rotateLeft_count _ _ hn⟩,
    ⟨_, writes _, fun k _ => toNat_shiftLeft_count _ _⟩, ⟨_, writes _, fun k _ => toNat_ushiftRight_count _ _⟩,
    ⟨_, writes _, fun k _ => toInt_sshiftRight_count _ _⟩⟩

/-! Shifts of the whole register. -/

theorem bitCount_eq_mod (b : Vec) : bitCount b = b.toNat % 8 := by
  rw [bitCount, BitVec.extractLsb'_toNat, Nat.shiftRight_zero]

theorem byteCount_eq_mod (b : Vec) : byteCount b = b.toNat / 8 % 16 := by
  rw [byteCount, BitVec.extractLsb'_toNat, Nat.shiftRight_eq_div_pow]

theorem uniformCount_iff (b : Vec) :
    uniformCount b = true ↔ ∀ k, k < 16 → (elem 8 b k).toNat % 8 = b.toNat % 8 := by
  simp [uniformCount, bitCount_eq_mod]

/-- Settles O39: with equal counts both instructions write the shifted register, and otherwise they write the free value
and draw it. -/
theorem wholeRegisterBitShifts : Obligations.whole_register_bit_shifts := by
  rintro s vd va vb sh ha rfl
  constructor
  · intro huniform
    have hend (v : Vec) : writeShifted s vd (s.getVr vb) v = writeVr s vd v :=
      if_pos ((uniformCount_iff _).2 huniform)
    have hleft : s.getVr va <<< bitCount (s.getVr vb) =
        BitVec.ofNat 128 ((s.getVr va).toNat * 2 ^ ((s.getVr vb).toNat % 8)) :=
      BitVec.eq_of_toNat_eq (by rw [toNat_shiftLeft_count, bitCount_eq_mod, BitVec.toNat_ofNat])
    have hright : s.getVr va >>> bitCount (s.getVr vb) =
        BitVec.ofNat 128 ((s.getVr va).toNat / 2 ^ ((s.getVr vb).toNat % 8)) :=
      BitVec.eq_of_toNat_eq (by
        rw [toNat_ushiftRight_count, bitCount_eq_mod, BitVec.toNat_ofNat,
          Nat.mod_eq_of_lt ((Nat.div_le_self _ _).trans_lt (s.getVr va).isLt)])
    constructor
    · rw [show exec (.vsl vd va vb) s = writeShifted s vd (s.getVr vb) _ from rfl, hend, hleft]
      exact writesRegister_writeVr ha vd _
    · rw [show exec (.vsr vd va vb) s = writeShifted s vd (s.getVr vb) _ from rfl, hend, hright]
      exact writesRegister_writeVr ha vd _
  · rintro ⟨k, hk, hne⟩ i hi
    have hend (v : Vec) : writeShifted s vd (s.getVr vb) v = writeVrDrawn s vd s.undef :=
      if_neg fun huniform => hne ((uniformCount_iff _).1 huniform k hk)
    have hexec : exec i s = writeVrDrawn s vd s.undef := by
      simp only [List.mem_cons, List.not_mem_nil, or_false] at hi
      obtain rfl | rfl := hi <;> exact hend _
    exact ⟨_, hexec.trans (writeVrDrawn_available ha vd _), State.getVr_setVr_same s vd _, rfl, rfl, rfl,
      registerFrame_setVr_draw s vd _⟩

section
variable (x y : Vec) {n k : Nat} (hk : k < 16)
include hk

/-- A register shifted left by `n` bytes: byte `k` comes from `n` places below, zeros from past the end. -/
theorem elem_shiftLeft_bytes : elem 8 (x <<< (8 * n)) k = if k + n < 16 then elem 8 x (k + n) else 0 := by
  refine BitVec.eq_of_getLsbD_eq fun i hi => ?_
  have hin : 128 - 8 * (k + 1) + i < 128 := by omega
  rw [elem, BitVec.getLsbD_extractLsb', BitVec.getLsbD_shiftLeft]
  split
  case isTrue hlow =>
    have hbelow : ¬128 - 8 * (k + 1) + i < 8 * n := by omega
    have hpos : 128 - 8 * (k + 1) + i - 8 * n = 128 - 8 * (k + n + 1) + i := by omega
    simp only [elem, BitVec.getLsbD_extractLsb', hi, hin, hbelow, hpos, decide_true, decide_false, Bool.not_false,
      Bool.true_and]
  case isFalse =>
    have hbelow : 128 - 8 * (k + 1) + i < 8 * n := by omega
    simp [hbelow]

/-- A register shifted right by `n` bytes. -/
theorem elem_ushiftRight_bytes : elem 8 (x >>> (8 * n)) k = if n ≤ k then elem 8 x (k - n) else 0 := by
  refine BitVec.eq_of_getLsbD_eq fun i hi => ?_
  rw [elem, BitVec.getLsbD_extractLsb', BitVec.getLsbD_ushiftRight]
  split
  case isTrue hle =>
    have hpos : 8 * n + (128 - 8 * (k + 1) + i) = 128 - 8 * (k - n + 1) + i := by omega
    rw [hpos, elem, BitVec.getLsbD_extractLsb']
  case isFalse =>
    have habove : 128 ≤ 8 * n + (128 - 8 * (k + 1) + i) := by omega
    rw [BitVec.getLsbD_of_ge _ _ habove]
    simp

/-- The 16 bytes of `x || y` from byte `n` on. -/
theorem elem_extract_append_bytes (hn : n < 16) : elem 8 ((x ++ y).extractLsb' (128 - 8 * n) 128) k =
    if k + n < 16 then elem 8 x (k + n) else elem 8 y (k + n - 16) := by
  refine BitVec.eq_of_getLsbD_eq fun i hi => ?_
  have hin : 128 - 8 * (k + 1) + i < 128 := by omega
  rw [elem, BitVec.getLsbD_extractLsb', BitVec.getLsbD_extractLsb', BitVec.getLsbD_append]
  split
  case isTrue hy =>
    have hpos : 128 - 8 * n + (128 - 8 * (k + 1) + i) = 128 - 8 * (k + n - 16 + 1) + i := by omega
    rw [if_neg (by omega), hpos, elem, BitVec.getLsbD_extractLsb', decide_eq_true hin, Bool.true_and]
  case isFalse hx =>
    have hpos : 128 - 8 * n + (128 - 8 * (k + 1) + i) - 128 = 128 - 8 * (k + n + 1) + i := by omega
    rw [if_pos (by omega), hpos, elem, BitVec.getLsbD_extractLsb', decide_eq_true hin, Bool.true_and]

end

/-- Settles O40: the byte shifts and the double shift, byte by byte. -/
theorem octetShifts : Obligations.octet_shifts := by
  rintro s vd va vb n ha rfl
  rw [← byteCount_eq_mod]
  exact ⟨writesElements_of_elem ha vd (.inl rfl) fun k hk => elem_shiftLeft_bytes _ hk,
    writesElements_of_elem ha vd (.inl rfl) fun k hk => elem_ushiftRight_bytes _ hk,
    fun shb => writesElements_of_elem ha vd (.inl rfl) fun k hk => elem_extract_append_bytes _ _ hk shb.isLt⟩

/-! Merges and the permute. -/

/-- A merge takes the elements of even places from `vA` and of odd places from `vB`. -/
theorem writesElements_mergeFrom {w : Nat} (hw : w = 8 ∨ w = 16 ∨ w = 32) {s : State} (ha : s.vecAvailable = true)
    (vd va vb : VReg) (start : Nat) :
    WritesElements w vd s (writeVr s vd (mergeFrom w start (s.getVr va) (s.getVr vb))) fun k =>
      elem w (s.getVr (if k % 2 = 0 then va else vb)) (start + k / 2) := by
  simp only [apply_ite s.getVr, apply_ite (elem w), ite_apply]
  exact writesElements_writeVr hw ha vd _

/-- Settles O41: a merge starts at element 0 or at the middle one; the permute reads the bytes of `vA || vB`. -/
theorem mergesAndPermute : Obligations.merges_and_permute := by
  intro s vd va vb ha
  refine ⟨fun w hi lo h => ?_, fun vc => writesElements_writeVr (.inl rfl) ha vd _⟩
  simp only [List.mem_cons, Prod.mk.injEq, List.not_mem_nil, or_false] at h
  have merge {w : Nat} (hw : w = 8 ∨ w = 16 ∨ w = 32) :=
    And.intro (writesElements_mergeFrom hw ha vd va vb 0) (writesElements_mergeFrom hw ha vd va vb (64 / w))
  simp only [Nat.zero_add] at merge
  obtain ⟨rfl, rfl, rfl⟩ | ⟨rfl, rfl, rfl⟩ | ⟨rfl, rfl, rfl⟩ := h
  · exact merge (.inl rfl)
  · exact merge (.inr (.inl rfl))
  · exact merge (.inr (.inr rfl))

/-! Packs. -/

/-- The low half of an element of `2w` bits is the second of its two elements of `w` bits. -/
theorem setWidth_elem_double {w : Nat} (x : Vec) (k : Nat) :
    (elem (2 * w) x k).setWidth w = elem w x (2 * k + 1) := by
  have hpos : w * (2 * k + 1 + 1) = 2 * w * (k + 1) := by ring
  refine BitVec.eq_of_getLsbD_eq fun i hi => ?_
  rw [elem, elem, hpos, BitVec.getLsbD_setWidth, BitVec.getLsbD_extractLsb', BitVec.getLsbD_extractLsb']
  simp [hi, show i < 2 * w by omega]

/-- Element `j` of `a || b` is an element of `a` or of `b`, by the half that `j` lies in. -/
theorem elemPair_eq_elem_ite {w h : Nat} (hh : 128 / w = h) (a b : Vec) {j : Nat} (hj : j < 2 * h) :
    elemPair w a b j = elem w (if j < h then a else b) (j % h) := by
  subst hh
  unfold elemPair
  split
  case isTrue hlow => rw [Nat.mod_eq_of_lt hlow]
  case isFalse => rw [Nat.mod_eq_sub_mod (by omega), Nat.mod_eq_of_lt (by omega)]

/-- Bit `n` of a packed pixel: three channels of five bits, each from the top of a byte, below the lowest bit of the
first byte (R288). -/
theorem getLsbD_packPixel (x : Word) {n : Nat} (hn : n < 16) :
    (packPixel x).getLsbD n = x.getLsbD (if n = 15 then 24 else 3 + n + 3 * (n / 5)) := by
  simp only [packPixel, BitVec.getLsbD_append, BitVec.getLsbD_extractLsb']
  interval_cases n <;> simp

/-- Settles O43: the packs keep the low half of each element of `vA || vB`, or pack it as a pixel. -/
theorem packsModuloAndPixel : Obligations.packs_modulo_and_pixel := by
  intro s vd va vb ha
  simp only [apply_ite s.getVr]
  refine ⟨writesElements_of_elem ha vd (.inl rfl) fun j hj => ?_,
    writesElements_of_elem ha vd (.inr (.inl rfl)) fun j hj => ?_,
    _, writesElements_writeVr (.inr (.inl rfl)) ha vd _, fun j n hj hn => ?_⟩
  · rw [packModulo, elem8_vecOf _ hj, elemPair_eq_elem_ite rfl _ _ hj, setWidth_elem_double]
  · rw [packModulo, elem16_vecOf _ hj, elemPair_eq_elem_ite rfl _ _ hj, setWidth_elem_double]
  · rw [getLsbD_packPixel _ hn, elemPair_eq_elem_ite rfl _ _ hj]

/-! Splats and unpacks. -/

/-- Settles O44: an index that names an element passes the operand check, and sign extension is truncation of the signed
reading. -/
theorem splats : Obligations.splats := by
  intro s vd vb u ha
  have allowed {ok : Bool} (hok : ok = true) {w : Nat} (hw : w = 8 ∨ w = 16 ∨ w = 32) (x : BitVec w) :
      WritesElements w vd s (whenOperandsAllowed ok (writeVr s vd (splat w x))) fun _ => x := by
    rw [hok, whenOperandsAllowed_ok]
    exact writesElements_writeVr hw ha vd _
  exact ⟨fun hu => allowed (decide_eq_true hu) (.inl rfl) _, fun hu => allowed (decide_eq_true hu) (.inr (.inl rfl)) _,
    fun hu => allowed (decide_eq_true hu) (.inr (.inr rfl)) _, writesElements_writeVr (.inl rfl) ha vd _,
    writesElements_writeVr (.inr (.inl rfl)) ha vd _, writesElements_writeVr (.inr (.inr rfl)) ha vd _⟩

theorem toNat_append_eq_add {n m : Nat} (x : BitVec n) (y : BitVec m) :
    (x ++ y).toNat = x.toNat * 2 ^ m + y.toNat := by
  rw [BitVec.toNat_append, ← Nat.shiftLeft_add_eq_or_of_lt y.isLt, Nat.shiftLeft_eq]

/-- A pixel of 1 + 5 + 5 + 5 bits as a number, widened to four bytes (R303, R306). -/
theorem unpackPixel_eq_ofNat (h : Half) : unpackPixel h = BitVec.ofNat 32
    ((if h.toNat / 2 ^ 15 = 1 then 255 * 2 ^ 24 else 0) + h.toNat / 2 ^ 10 % 32 * 2 ^ 16 +
      h.toNat / 2 ^ 5 % 32 * 2 ^ 8 + h.toNat % 32) := by
  have hh := h.isLt
  have hmask : ∀ b : BitVec 1, (b.signExtend 8).toNat = if b.toNat = 1 then 255 else 0 := by decide
  have hfirst : (h.extractLsb' 15 1).toNat = h.toNat / 2 ^ 15 := by
    rw [BitVec.extractLsb'_toNat, Nat.shiftRight_eq_div_pow, Nat.mod_eq_of_lt (by omega)]
  have hchannel {p : Nat} : ((h.extractLsb' p 5).setWidth 8).toNat = h.toNat / 2 ^ p % 32 := by
    rw [BitVec.toNat_setWidth, BitVec.extractLsb'_toNat, Nat.shiftRight_eq_div_pow]
    omega
  apply BitVec.eq_of_toNat_eq
  simp only [unpackPixel, toNat_append_eq_add, hmask, hfirst, hchannel, BitVec.toNat_ofNat]
  split <;> omega

/-- Settles O45: the elements of one half, sign-extended or unpacked. -/
theorem unpacks : Obligations.unpacks := by
  intro s vd vb ha half i j p h
  simp only [List.mem_cons, Prod.mk.injEq, List.not_mem_nil, or_false] at h
  simp only [← unpackPixel_eq_ofNat]
  obtain ⟨rfl, rfl, rfl, rfl⟩ | ⟨rfl, rfl, rfl, rfl⟩ := h
  all_goals exact ⟨writesElements_writeVr (.inr (.inl rfl)) ha vd _, writesElements_writeVr (.inr (.inr rfl)) ha vd _,
    writesElements_writeVr (.inr (.inr rfl)) ha vd _⟩

end Sys2Proof.Proofs
end

section
/-! PROOFS. Words as floating-point numbers (00_scope.md R13, 49_float.md R320): a word is its sign and its 31 other
bits, and its class and magnitude are read off those bits as one number. -/

namespace Sys2Proof.Proofs
open Sys2Proof Sys2Proof.Machine

/-! A word is its sign and its other bits. -/

/-- The 31 bits below the sign, as a number: it orders the magnitudes. -/
def absBits (w : Word) : Nat := w.toNat % 2 ^ 31

theorem absBits_lt (w : Word) : absBits w < 2 ^ 31 := Nat.mod_lt _ (by decide)

theorem fpSign_eq_decide (w : Word) : fpSign w = decide (2 ^ 31 ≤ w.toNat) := BitVec.msb_eq_decide w

theorem toNat_eq_absBits_add (w : Word) : w.toNat = absBits w + if fpSign w then 2 ^ 31 else 0 := by
  have hw := w.isLt
  rw [fpSign_eq_decide, absBits]
  by_cases h : 2 ^ 31 ≤ w.toNat <;> simp only [h, decide_true, decide_false, if_true, Bool.false_eq_true, if_false] <;>
    omega

theorem word_ext {a b : Word} (hbits : absBits a = absBits b) (hsign : fpSign a = fpSign b) : a = b :=
  BitVec.eq_of_toNat_eq (by rw [toNat_eq_absBits_add a, toNat_eq_absBits_add b, hbits, hsign])

/-- The word of a sign and 31 bits. -/
theorem toNat_or_zeroOf {n : Nat} (hn : n < 2 ^ 31) (σ : Bool) :
    (BitVec.ofNat 32 n ||| zeroOf σ).toNat = n + if σ then 2 ^ 31 else 0 := by
  have hlow : (BitVec.ofNat 32 n).toNat = n := by rw [BitVec.toNat_ofNat]; omega
  rw [BitVec.toNat_or, hlow]
  cases σ with
  | false => exact Nat.or_zero n
  | true => exact (Nat.or_comm _ _).trans ((Nat.two_pow_add_eq_or_of_lt hn 1).symm.trans (Nat.add_comm _ _))

theorem absBits_or_zeroOf {n : Nat} (hn : n < 2 ^ 31) (σ : Bool) : absBits (BitVec.ofNat 32 n ||| zeroOf σ) = n := by
  rw [absBits, toNat_or_zeroOf hn]
  split <;> omega

theorem fpSign_or_zeroOf {n : Nat} (hn : n < 2 ^ 31) (σ : Bool) : fpSign (BitVec.ofNat 32 n ||| zeroOf σ) = σ := by
  rw [fpSign_eq_decide, toNat_or_zeroOf hn]
  have hfalse : decide (2 ^ 31 ≤ n + 0) = false := decide_eq_false (by omega)
  have htrue : decide (2 ^ 31 ≤ n + 2 ^ 31) = true := decide_eq_true (by omega)
  cases σ with
  | false => exact hfalse
  | true => exact htrue

theorem getLsbD_zero_or_zeroOf (n : Nat) (σ : Bool) :
    (BitVec.ofNat 32 n ||| zeroOf σ).getLsbD 0 = decide (n % 2 = 1) := by
  have hlow : (BitVec.ofNat 32 n).getLsbD 0 = decide (n % 2 = 1) := by rw [BitVec.getLsbD_ofNat]; simp
  cases σ <;> simpa [zeroOf] using hlow

@[simp] theorem absBits_zeroOf (σ : Bool) : absBits (zeroOf σ) = 0 := by cases σ <;> rfl

@[simp] theorem fpSign_zeroOf (σ : Bool) : fpSign (zeroOf σ) = σ := by cases σ <;> rfl

@[simp] theorem absBits_infOf (σ : Bool) : absBits (infOf σ) = 255 * 2 ^ 23 := by cases σ <;> rfl

@[simp] theorem fpSign_infOf (σ : Bool) : fpSign (infOf σ) = σ := by cases σ <;> rfl

/-! Negation (R320). -/

@[simp] theorem fpSign_fpNeg (w : Word) : fpSign (fpNeg w) = !fpSign w := by
  simp [fpSign, fpNeg]

@[simp] theorem absBits_fpNeg (w : Word) : absBits (fpNeg w) = absBits w := by
  have hbits : (w ^^^ 0x80000000#32).setWidth 31 = w.setWidth 31 := by
    refine BitVec.eq_of_getLsbD_eq fun i hi => ?_
    rw [BitVec.getLsbD_setWidth, BitVec.getLsbD_xor, signMask_getLsbD (by omega), decide_eq_false (by omega : ¬i = 31),
      Bool.xor_false, BitVec.getLsbD_setWidth]
  rw [absBits, absBits, ← BitVec.toNat_setWidth, ← BitVec.toNat_setWidth]
  exact congrArg BitVec.toNat hbits

/-! Classes. -/

theorem fpExp_eq (w : Word) : fpExp w = absBits w / 2 ^ 23 := by
  rw [fpExp, BitVec.extractLsb'_toNat, Nat.shiftRight_eq_div_pow, absBits]
  omega

theorem fpFrac_eq (w : Word) : fpFrac w = absBits w % 2 ^ 23 := by
  rw [fpFrac, BitVec.extractLsb'_toNat, Nat.shiftRight_zero, absBits]
  omega

theorem isFinite_iff (w : Word) : isFinite w = true ↔ absBits w < 255 * 2 ^ 23 := by
  have hw := absBits_lt w
  simp only [isFinite, fpExp_eq, bne_iff_ne, ne_eq]
  omega

theorem isInf_iff (w : Word) : isInf w = true ↔ absBits w = 255 * 2 ^ 23 := by
  simp only [isInf, fpExp_eq, fpFrac_eq, Bool.and_eq_true, beq_iff_eq]
  omega

theorem isNaN_iff (w : Word) : isNaN w = true ↔ 255 * 2 ^ 23 < absBits w := by
  have hw := absBits_lt w
  simp only [isNaN, fpExp_eq, fpFrac_eq, Bool.and_eq_true, beq_iff_eq, bne_iff_ne, ne_eq]
  omega

theorem isNaN_eq_false_iff (w : Word) : isNaN w = false ↔ absBits w ≤ 255 * 2 ^ 23 := by
  rw [← Bool.not_eq_true, isNaN_iff, Nat.not_lt]

theorem isZero_iff (w : Word) : isZero w = true ↔ absBits w = 0 := by
  simp only [isZero, fpExp_eq, fpFrac_eq, Bool.and_eq_true, beq_iff_eq]
  omega

theorem isZero_eq_false_iff (w : Word) : isZero w = false ↔ absBits w ≠ 0 := by
  rw [← Bool.not_eq_true, isZero_iff]

/-! Magnitudes in units of 2^-149. -/

/-- The magnitude that 31 bits stand for: exponent and fraction. -/
def magOf (n : Nat) : Nat := if n / 2 ^ 23 = 0 then n % 2 ^ 23 else (2 ^ 23 + n % 2 ^ 23) * 2 ^ (n / 2 ^ 23 - 1)

theorem fpMag_eq (w : Word) : fpMag w = magOf (absBits w) := by
  rw [fpMag, fpExp_eq, fpFrac_eq, magOf]

/-- The bits of a significand `k` at place `sh`; a significand of 2^24 runs into the exponent and stands for the next
power of two. -/
theorem magOf_add {sh k : Nat} (hk : k ≤ 2 ^ 24) (hnormal : sh = 0 ∨ 2 ^ 23 ≤ k) :
    magOf (sh * 2 ^ 23 + k) = k * 2 ^ sh := by
  by_cases hsmall : k < 2 ^ 23
  · obtain rfl : sh = 0 := by omega
    rw [magOf, if_pos (by omega), pow_zero]
    omega
  by_cases hlast : k = 2 ^ 24
  · have hexp : (sh * 2 ^ 23 + k) / 2 ^ 23 = sh + 2 := by omega
    have hfrac : (sh * 2 ^ 23 + k) % 2 ^ 23 = 0 := by omega
    rw [magOf, hexp, hfrac, if_neg (by omega), hlast, Nat.add_sub_cancel (n := sh + 1) (m := 1), pow_succ]
    ring
  · have hexp : (sh * 2 ^ 23 + k) / 2 ^ 23 = sh + 1 := by omega
    have hfrac : 2 ^ 23 + (sh * 2 ^ 23 + k) % 2 ^ 23 = k := by omega
    rw [magOf, hexp, hfrac, if_neg (by omega), Nat.add_sub_cancel]

/-- Every magnitude is a significand below 2^24 at a place. -/
theorem exists_significand (n : Nat) :
    ∃ sh k, n = sh * 2 ^ 23 + k ∧ k < 2 ^ 24 ∧ (sh = 0 ∨ 2 ^ 23 ≤ k) ∧ magOf n = k * 2 ^ sh := by
  obtain ⟨sh, k, hn, hk, hnormal⟩ : ∃ sh k, n = sh * 2 ^ 23 + k ∧ k < 2 ^ 24 ∧ (sh = 0 ∨ 2 ^ 23 ≤ k) := by
    by_cases h : n < 2 ^ 24
    · exact ⟨0, n, by omega, h, .inl rfl⟩
    · exact ⟨n / 2 ^ 23 - 1, n % 2 ^ 23 + 2 ^ 23, by omega, by omega, .inr (by omega)⟩
  exact ⟨sh, k, hn, hk, hnormal, hn ▸ magOf_add hk.le hnormal⟩

theorem magOf_eq_zero_iff (n : Nat) : magOf n = 0 ↔ n = 0 := by
  obtain ⟨sh, k, hn, hk, hnormal, hmag⟩ := exists_significand n
  rw [hmag, mul_eq_zero, or_iff_left (by positivity)]
  omega

/-- The greatest finite magnitude. -/
theorem magOf_le_of_finite {n : Nat} (hn : n < 255 * 2 ^ 23) : magOf n ≤ (2 ^ 24 - 1) * 2 ^ 253 := by
  obtain ⟨sh, k, rfl, hk, hnormal, hmag⟩ := exists_significand n
  rw [hmag]
  exact Nat.mul_le_mul (by omega) (Nat.pow_le_pow_right (by decide) (by omega))

theorem magOf_inf : magOf (255 * 2 ^ 23) = 2 ^ 24 * 2 ^ 253 := by
  rw [show 255 * 2 ^ 23 = 254 * 2 ^ 23 + 2 ^ 23 by norm_num, magOf_add (by norm_num) (.inr le_rfl)]
  ring

theorem fpScaled_natAbs (w : Word) : (fpScaled w).natAbs = fpMag w := by
  unfold fpScaled
  split <;> simp

theorem fpScaled_of_sign {w : Word} {σ : Bool} (h : fpSign w = σ) :
    fpScaled w = if σ then -(fpMag w : Int) else fpMag w := by rw [fpScaled, h]

@[simp] theorem fpMag_fpNeg (w : Word) : fpMag (fpNeg w) = fpMag w := by rw [fpMag_eq, fpMag_eq, absBits_fpNeg]

@[simp] theorem fpScaled_fpNeg (w : Word) : fpScaled (fpNeg w) = -fpScaled w := by
  rw [fpScaled, fpScaled, fpSign_fpNeg, fpMag_fpNeg]
  cases fpSign w <;> simp

theorem fpMag_eq_zero_iff (w : Word) : fpMag w = 0 ↔ isZero w = true := by
  rw [fpMag_eq, magOf_eq_zero_iff, isZero_iff]

theorem fpScaled_eq_zero_iff (w : Word) : fpScaled w = 0 ↔ isZero w = true := by
  rw [← Int.natAbs_eq_zero, fpScaled_natAbs, fpMag_eq_zero_iff]

theorem fpMag_lt_of_finite {w : Word} (h : isFinite w = true) : fpMag w < (2 ^ 25 - 1) * 2 ^ 252 := by
  have hle : fpMag w ≤ (2 ^ 24 - 1) * 2 ^ 253 := fpMag_eq w ▸ magOf_le_of_finite ((isFinite_iff w).1 h)
  exact hle.trans_lt (by norm_num)

end Sys2Proof.Proofs
end

section
/-! PROOFS. Rounding to nearest even (49_float.md R322): the bits that the model computes stand for a multiple of the
power of two at the last place of the quotient, nearest among these multiples; every other magnitude lies below the
least significand at that place, and so farther away. -/

namespace Sys2Proof.Proofs
open Sys2Proof Sys2Proof.Machine

/-! The place and the significand of the rounded quotient. -/

section
variable (m : Nat) {d : Nat} (hd : 0 < d)
include hd

/-- The quotient has at most 24 bits before its last place, and 24 unless the last place is 2^-149. -/
theorem fpShift_bounds : (fpShift (m / d) = 0 ∨ 2 ^ 23 * (d * 2 ^ fpShift (m / d)) ≤ m) ∧
    m < 2 ^ 24 * (d * 2 ^ fpShift (m / d)) := by
  have hlt : m / d < 2 ^ (Nat.log2 (m / d) + 1) := Nat.lt_log2_self
  have hup : m < 2 ^ (24 + fpShift (m / d)) * d :=
    (Nat.div_lt_iff_lt_mul hd).1 (hlt.trans_le (Nat.pow_le_pow_right (by decide) (by unfold fpShift; omega)))
  refine ⟨?_, hup.trans_eq (by ring)⟩
  by_cases hsmall : Nat.log2 (m / d) ≤ 23
  · exact .inl (by unfold fpShift; omega)
  · have hne : m / d ≠ 0 := fun h => hsmall (by rw [h]; decide)
    have hlog : 23 + fpShift (m / d) = Nat.log2 (m / d) := by unfold fpShift; omega
    have hle : 2 ^ (23 + fpShift (m / d)) ≤ m / d := hlog ▸ Nat.log2_self_le hne
    refine .inr (le_trans (Eq.le ?_) ((Nat.le_div_iff_mul_le hd).1 hle))
    ring

/-- The significand that the quotient is rounded to. -/
theorem nearestEven_bounds : nearestEven m (d * 2 ^ fpShift (m / d)) ≤ 2 ^ 24 ∧
    (fpShift (m / d) = 0 ∨ 2 ^ 23 ≤ nearestEven m (d * 2 ^ fpShift (m / d))) := by
  obtain ⟨hlow, hup⟩ := fpShift_bounds m hd
  have hD : 0 < d * 2 ^ fpShift (m / d) := by positivity
  obtain ⟨hle, hge, -⟩ := nearestEven_spec m hD
  generalize d * 2 ^ fpShift (m / d) = D at *
  generalize nearestEven m D = k at *
  constructor
  · by_contra h
    have : (2 ^ 24 + 1) * D ≤ k * D := Nat.mul_le_mul_right D (by omega)
    omega
  · refine hlow.imp_right fun hlow => ?_
    by_contra h
    have : (k + 1) * D ≤ 2 ^ 23 * D := Nat.mul_le_mul_right D (by omega)
    rw [add_one_mul] at this
    omega

end

/-- The bits of the rounded quotient before the clamp to infinity. -/
def roundBits (m d : Nat) : Nat := fpShift (m / d) * 2 ^ 23 + nearestEven m (d * 2 ^ fpShift (m / d))

theorem roundMag_eq_min (m d : Nat) : roundMag m d = min (roundBits m d) (255 * 2 ^ 23) := rfl

theorem magOf_roundBits (m : Nat) {d : Nat} (hd : 0 < d) :
    magOf (roundBits m d) = nearestEven m (d * 2 ^ fpShift (m / d)) * 2 ^ fpShift (m / d) := by
  obtain ⟨hk, hnormal⟩ := nearestEven_bounds m hd
  exact magOf_add hk hnormal

theorem roundBits_mod_two (m d : Nat) : roundBits m d % 2 = nearestEven m (d * 2 ^ fpShift (m / d)) % 2 := by
  unfold roundBits
  omega

/-! The rounded quotient among the magnitudes. -/

section
variable (m : Nat) {d : Nat} (hd : 0 < d)
include hd

/-- The rounding error is at most half of the last place, and half of it only if the significand is even. -/
theorem abs_roundBits_sub_le : |(magOf (roundBits m d) : ℚ) - m / d| ≤ 2 ^ fpShift (m / d) / 2 ∧
    (|(magOf (roundBits m d) : ℚ) - m / d| = 2 ^ fpShift (m / d) / 2 → roundBits m d % 2 = 0) := by
  obtain ⟨hle, hge, heven⟩ := nearestEven_spec m (show 0 < d * 2 ^ fpShift (m / d) by positivity)
  rw [magOf_roundBits m hd, roundBits_mod_two]
  generalize fpShift (m / d) = sh at *
  generalize nearestEven m (d * 2 ^ sh) = k at *
  have hd' : (0 : ℚ) < d := by exact_mod_cast hd
  have herr : ((k * 2 ^ sh : Nat) : ℚ) - m / d = (2 * (k * (d * 2 ^ sh)) - 2 * m) / (2 * d) := by
    push_cast; field_simp
  have hhalf : (2 : ℚ) ^ sh / 2 = d * 2 ^ sh / (2 * d) := by field_simp
  have hle' : (2 * m : ℚ) ≤ 2 * (k * (d * 2 ^ sh)) + d * 2 ^ sh := by exact_mod_cast hle
  have hge' : (2 * (k * (d * 2 ^ sh)) : ℚ) ≤ 2 * m + d * 2 ^ sh := by exact_mod_cast hge
  rw [herr, hhalf, abs_div, abs_of_pos (show (0 : ℚ) < 2 * d by positivity)]
  constructor
  · rw [div_le_div_iff_of_pos_right (by positivity), abs_le]
    constructor <;> linarith
  · rw [div_left_inj' (by positivity)]
    intro h
    rcases abs_choice (2 * (k * (d * 2 ^ sh)) - 2 * m : ℚ) with habs | habs <;> rw [habs] at h
    · exact heven (.inr (by exact_mod_cast (by linarith : (2 * (k * (d * 2 ^ sh)) : ℚ) = 2 * m + d * 2 ^ sh)))
    · exact heven (.inl (by exact_mod_cast (by linarith : (2 * m : ℚ) = 2 * (k * (d * 2 ^ sh)) + d * 2 ^ sh)))

/-- Among the multiples of the last place none is nearer, and another one is as near only if the significand is even. -/
theorem roundBits_nearest_multiple (j : Nat) :
    |(magOf (roundBits m d) : ℚ) - m / d| ≤ |((j * 2 ^ fpShift (m / d) : Nat) : ℚ) - m / d| ∧
      (|(magOf (roundBits m d) : ℚ) - m / d| = |((j * 2 ^ fpShift (m / d) : Nat) : ℚ) - m / d| →
        j * 2 ^ fpShift (m / d) ≠ magOf (roundBits m d) → roundBits m d % 2 = 0) := by
  obtain ⟨hhalf, heven⟩ := abs_roundBits_sub_le m hd
  by_cases hsame : j * 2 ^ fpShift (m / d) = magOf (roundBits m d)
  · exact ⟨by rw [hsame], fun _ h => absurd hsame h⟩
  have hapart : (2 : ℚ) ^ fpShift (m / d) ≤
      |((j * 2 ^ fpShift (m / d) : Nat) : ℚ) - (magOf (roundBits m d) : ℚ)| := by
    rw [magOf_roundBits m hd] at hsame ⊢
    generalize nearestEven m (d * 2 ^ fpShift (m / d)) = k at *
    have hne : (j : Int) - k ≠ 0 := fun h => hsame (by rw [Int.ofNat_inj.1 (sub_eq_zero.1 h)])
    have hone : (1 : ℚ) ≤ |(j : ℚ) - k| := by exact_mod_cast Int.one_le_abs hne
    push_cast
    rw [← sub_mul, abs_mul, abs_of_pos (show (0 : ℚ) < 2 ^ fpShift (m / d) by positivity)]
    exact le_mul_of_one_le_left (by positivity) hone
  have htriangle := abs_sub_le ((j * 2 ^ fpShift (m / d) : Nat) : ℚ) (m / d) (magOf (roundBits m d))
  rw [abs_sub_comm (m / d : ℚ)] at htriangle
  exact ⟨by linarith, fun heq _ => heven (by linarith)⟩

/-- Among all magnitudes none is nearer, and another one is as near only if the significand is even. -/
theorem roundBits_nearest (n : Nat) :
    |(magOf (roundBits m d) : ℚ) - m / d| ≤ |(magOf n : ℚ) - m / d| ∧
      (|(magOf (roundBits m d) : ℚ) - m / d| = |(magOf n : ℚ) - m / d| → magOf n ≠ magOf (roundBits m d) →
        roundBits m d % 2 = 0) := by
  obtain ⟨sh, k, -, hk, -, hmag⟩ := exists_significand n
  rcases le_or_gt (fpShift (m / d)) sh with hsh | hsh
  · have hmultiple : magOf n = k * 2 ^ (sh - fpShift (m / d)) * 2 ^ fpShift (m / d) := by
      rw [hmag, mul_assoc, ← pow_add, Nat.sub_add_cancel hsh]
    rw [hmultiple]
    exact roundBits_nearest_multiple m hd _
  · have hbelow : magOf n < 2 ^ 23 * 2 ^ fpShift (m / d) := by
      rw [hmag]
      calc k * 2 ^ sh < 2 ^ 24 * 2 ^ sh := Nat.mul_lt_mul_of_pos_right hk (by positivity)
        _ = 2 ^ 23 * 2 ^ (sh + 1) := by ring
        _ ≤ 2 ^ 23 * 2 ^ fpShift (m / d) := Nat.mul_le_mul_left _ (Nat.pow_le_pow_right (by decide) hsh)
    have hquot : ((2 ^ 23 * 2 ^ fpShift (m / d) : Nat) : ℚ) ≤ m / d := by
      have hle := (fpShift_bounds m hd).1.resolve_left (by omega)
      rw [le_div_iff₀ (by exact_mod_cast hd)]
      exact_mod_cast (by linarith : 2 ^ 23 * 2 ^ fpShift (m / d) * d ≤ m)
    have hfar : |((2 ^ 23 * 2 ^ fpShift (m / d) : Nat) : ℚ) - m / d| < |(magOf n : ℚ) - m / d| := by
      have hbelow' : (magOf n : ℚ) < (2 ^ 23 * 2 ^ fpShift (m / d) : Nat) := by exact_mod_cast hbelow
      rw [abs_of_nonpos (by linarith), abs_of_nonpos (by linarith)]
      linarith
    have hnear := (roundBits_nearest_multiple m hd (2 ^ 23)).1
    exact ⟨by linarith, fun heq => by linarith⟩

/-- The same among the magnitudes with either sign, since the quotient is positive. -/
theorem roundBits_nearest_signed (hm : 0 < m) {a : ℚ} {n : Nat} (ha : |a| = magOf n) :
    |(magOf (roundBits m d) : ℚ) - m / d| ≤ |a - m / d| ∧
      (|(magOf (roundBits m d) : ℚ) - m / d| = |a - m / d| → a ≠ magOf (roundBits m d) → roundBits m d % 2 = 0) := by
  obtain ⟨hle, heven⟩ := roundBits_nearest m hd n
  have hpos : (0 : ℚ) < m / d := div_pos (by exact_mod_cast hm) (by exact_mod_cast hd)
  rcases le_or_gt 0 a with hsign | hsign
  · obtain rfl : a = magOf n := by rw [← ha, abs_of_nonneg hsign]
    exact ⟨hle, fun heq hne => heven heq (by exact_mod_cast hne)⟩
  · have hfar : |(magOf n : ℚ) - m / d| < |a - m / d| := by
      rw [← ha, abs_of_neg hsign, abs_of_neg (by linarith : a - m / d < 0), abs_lt]
      constructor <;> linarith
    exact ⟨by linarith, fun heq => by linarith⟩

end

/-! Overflow. -/

/-- A rounded quotient is at most the odd number `k` exactly where the quotient is below the tie above `k`. -/
theorem nearestEven_le_odd_iff (m : Nat) {D k : Nat} (hD : 0 < D) (hodd : k % 2 = 1) :
    nearestEven m D ≤ k ↔ 2 * m < (2 * k + 1) * D := by
  obtain ⟨hle, hge, heven⟩ := nearestEven_spec m hD
  generalize nearestEven m D = r at *
  rw [add_mul, mul_assoc, one_mul]
  rcases lt_trichotomy r k with h | rfl | h
  · have : (r + 1) * D ≤ k * D := Nat.mul_le_mul_right D h
    rw [add_one_mul] at this
    omega
  · omega
  · have : (k + 1) * D ≤ r * D := Nat.mul_le_mul_right D h
    rw [add_one_mul] at this
    omega

/-- The quotient is rounded to a finite word exactly where it is nearer to the greatest one than to 2^128. -/
theorem roundBits_lt_inf_iff (m : Nat) {d : Nat} (hd : 0 < d) :
    roundBits m d < 255 * 2 ^ 23 ↔ (m / d : ℚ) < (2 ^ 25 - 1) * 2 ^ 252 := by
  obtain ⟨hlow, hup⟩ := fpShift_bounds m hd
  obtain ⟨hk, hnormal⟩ := nearestEven_bounds m hd
  have hbound : (m / d : ℚ) < (2 ^ 25 - 1) * 2 ^ 252 ↔ 2 * m < (2 * (2 ^ 24 - 1) + 1) * (d * 2 ^ 253) := by
    rw [div_lt_iff₀ (by exact_mod_cast hd), ← Nat.cast_lt (α := ℚ)]
    push_cast
    constructor <;> intro h <;> linarith
  rw [hbound, roundBits]
  rcases lt_trichotomy (fpShift (m / d)) 253 with hsh | hsh | hsh
  · have hplace : d * 2 ^ fpShift (m / d) * 2 ≤ d * 2 ^ 253 := by
      rw [mul_assoc, ← pow_succ]
      exact Nat.mul_le_mul_left d (Nat.pow_le_pow_right (by decide) hsh)
    exact iff_of_true (by omega) (by omega)
  · have hiff := nearestEven_le_odd_iff m (show 0 < d * 2 ^ 253 by positivity) (show (2 ^ 24 - 1) % 2 = 1 by decide)
    rw [hsh, ← hiff]
    omega
  · have hplace : d * 2 ^ 253 * 2 ≤ d * 2 ^ fpShift (m / d) := by
      rw [mul_assoc, ← pow_succ]
      exact Nat.mul_le_mul_left d (Nat.pow_le_pow_right (by decide) hsh)
    have hlow := hlow.resolve_left (by omega)
    have hbits := hnormal.resolve_left (by omega)
    exact iff_of_false (by omega) (by omega)

/-! The rounded word. -/

section
variable (z : Int) (d : Nat)

theorem roundMag_lt (m : Nat) : roundMag m d < 2 ^ 31 := by
  rw [roundMag_eq_min]
  omega

@[simp] theorem absBits_roundNE : absBits (roundNE z d) = roundMag z.natAbs d := absBits_or_zeroOf (roundMag_lt _ _) _

@[simp] theorem fpSign_roundNE : fpSign (roundNE z d) = decide (z < 0) := fpSign_or_zeroOf (roundMag_lt _ _) _

theorem isNaN_roundNE : isNaN (roundNE z d) = false := by
  rw [isNaN_eq_false_iff, absBits_roundNE, roundMag_eq_min]
  exact min_le_right _ _

end

/-! The rounded word as a number. -/

/-- The factor that a sign stands for. -/
def signFactor (σ : Bool) : ℚ := if σ then -1 else 1

theorem signFactor_mul_self (σ : Bool) : signFactor σ * signFactor σ = 1 := by cases σ <;> norm_num [signFactor]

theorem abs_signFactor (σ : Bool) : |signFactor σ| = 1 := by cases σ <;> norm_num [signFactor]

theorem intCast_eq_signFactor_mul (z : Int) : (z : ℚ) = signFactor (decide (z < 0)) * z.natAbs := by
  rcases lt_or_ge z 0 with h | h
  · rw [decide_eq_true h, Nat.cast_natAbs, abs_of_neg h]; simp [signFactor]
  · rw [decide_eq_false (not_lt.2 h), Nat.cast_natAbs, abs_of_nonneg h]; simp [signFactor]

theorem fpScaled_eq_signFactor_mul (w : Word) : (fpScaled w : ℚ) = signFactor (fpSign w) * magOf (absBits w) := by
  rw [fpScaled, fpMag_eq]
  cases fpSign w <;> simp [signFactor]

/-- Distances from `z / d` in units of 2^-149, with the sign of `z` taken off. -/
theorem abs_sub_eq_of_sign (z : Int) (d : Nat) (a : ℚ) :
    |a / 2 ^ 149 - z / d / 2 ^ 149| = |signFactor (decide (z < 0)) * a - z.natAbs / d| / 2 ^ 149 := by
  have hz := intCast_eq_signFactor_mul z
  have hsq := signFactor_mul_self (decide (z < 0))
  have habs := abs_signFactor (decide (z < 0))
  generalize signFactor (decide (z < 0)) = σ at *
  have hmul : σ * (a / 2 ^ 149 - z / d / 2 ^ 149) = (σ * a - z.natAbs / d) / 2 ^ 149 := by
    rw [hz]
    linear_combination (-(z.natAbs : ℚ) / d / 2 ^ 149) * hsq
  calc |a / 2 ^ 149 - z / d / 2 ^ 149| = |σ * (a / 2 ^ 149 - z / d / 2 ^ 149)| := by rw [abs_mul, habs, one_mul]
    _ = |σ * a - z.natAbs / d| / 2 ^ 149 := by rw [hmul, abs_div, abs_of_pos (show (0 : ℚ) < 2 ^ 149 by positivity)]

theorem abs_quotient (z : Int) (d : Nat) : |(z : ℚ) / d / 2 ^ 149| = (z.natAbs : ℚ) / d / 2 ^ 149 := by
  rw [abs_div, abs_div, abs_of_pos (show (0 : ℚ) < 2 ^ 149 by positivity), Nat.abs_cast, Nat.cast_natAbs, Int.cast_abs]

section
variable {z : Int} {d : Nat} (hd : 0 < d)
include hd

theorem roundBits_lt_inf_of_abs_lt (h : |(z : ℚ) / d / 2 ^ 149| < 2 ^ 128 - 2 ^ 103) :
    roundBits z.natAbs d < 255 * 2 ^ 23 := by
  rw [abs_quotient, div_lt_iff₀ (by positivity)] at h
  exact (roundBits_lt_inf_iff _ hd).2 (h.trans_eq (by norm_num))

/-- The rounded word as a number, where it does not overflow. -/
theorem fpScaled_roundNE (h : |(z : ℚ) / d / 2 ^ 149| < 2 ^ 128 - 2 ^ 103) :
    (fpScaled (roundNE z d) : ℚ) = signFactor (decide (z < 0)) * magOf (roundBits z.natAbs d) := by
  rw [fpScaled_eq_signFactor_mul, fpSign_roundNE, absBits_roundNE, roundMag_eq_min,
    min_eq_left (roundBits_lt_inf_of_abs_lt hd h).le]

theorem abs_roundNE_sub (h : |(z : ℚ) / d / 2 ^ 149| < 2 ^ 128 - 2 ^ 103) :
    |fpRat (roundNE z d) - z / d / 2 ^ 149| = |(magOf (roundBits z.natAbs d) : ℚ) - z.natAbs / d| / 2 ^ 149 := by
  rw [fpRat, abs_sub_eq_of_sign, fpScaled_roundNE hd h, ← mul_assoc, signFactor_mul_self, one_mul]

end

/-- Settles O46: with the sign taken off, the rounded bits are the nearest magnitude, and a clamp to infinity happens
exactly from `2^128 - 2^103` on. -/
theorem roundingToNearestEven : Obligations.rounding_to_nearest_even := by
  intro z d hz hd
  have hm : 0 < z.natAbs := Int.natAbs_pos.2 hz
  have hd' : (0 : ℚ) < d := by exact_mod_cast hd
  refine ⟨isNaN_roundNE z d, ?_, fun hover => ?_, fun hrange => ⟨?_, fun w _ => ?_⟩⟩
  · rw [fpSign_roundNE, decide_eq_true_iff, div_lt_iff₀ (by positivity), zero_mul, div_lt_iff₀ hd', zero_mul,
      Int.cast_lt_zero]
  · have hnot : ¬roundBits z.natAbs d < 255 * 2 ^ 23 := by
      rw [abs_quotient, le_div_iff₀ (by positivity)] at hover
      rw [roundBits_lt_inf_iff _ hd, not_lt]
      exact le_trans (by norm_num) hover
    rw [isInf_iff, absBits_roundNE, roundMag_eq_min, min_eq_right (not_lt.1 hnot)]
  · rw [isFinite_iff, absBits_roundNE, roundMag_eq_min]
    exact (min_le_left _ _).trans_lt (roundBits_lt_inf_of_abs_lt hd hrange)
  · have hw : |signFactor (decide (z < 0)) * fpScaled w| = magOf (absBits w) := by
      rw [fpScaled_eq_signFactor_mul, abs_mul, abs_mul, abs_signFactor, abs_signFactor, one_mul, one_mul, Nat.abs_cast]
    obtain ⟨hle, heven⟩ := roundBits_nearest_signed z.natAbs hd hm hw
    rw [abs_roundNE_sub hd hrange, fpRat, abs_sub_eq_of_sign]
    refine ⟨div_le_div_of_nonneg_right hle (by positivity), fun heq hne => ?_⟩
    have hbits : roundBits z.natAbs d % 2 = 0 := by
      refine heven ((div_left_inj' (by positivity)).1 heq) fun hsame => hne ?_
      have hscaled : (fpScaled w : ℚ) = fpScaled (roundNE z d) := by
        rw [fpScaled_roundNE hd hrange, ← hsame, ← mul_assoc, signFactor_mul_self, one_mul]
      rw [fpRat, hscaled]
    have hlow : (roundNE z d).getLsbD 0 = decide (roundMag z.natAbs d % 2 = 1) := getLsbD_zero_or_zeroOf _ _
    rw [hlow, roundMag_eq_min, min_eq_left (roundBits_lt_inf_of_abs_lt hd hrange).le, hbits]
    rfl

end Sys2Proof.Proofs
end

section
/-! PROOFS. NaNs and the flush (49_float.md R321, R323), and the order of words (R324). -/

namespace Sys2Proof.Proofs
open Sys2Proof Sys2Proof.Machine

/-! Quiet NaNs. -/

/-- A word whose exponent bits and quiet bit are set is a NaN. -/
theorem isNaN_of_high_bits {w : Word} (h : ∀ i, i < 9 → w.getLsbD (22 + i) = true) : isNaN w = true := by
  have hones : w.extractLsb' 22 9 = BitVec.allOnes 9 := by
    refine BitVec.eq_of_getLsbD_eq fun i hi => ?_
    rw [BitVec.getLsbD_extractLsb', BitVec.getLsbD_allOnes, h i hi, decide_eq_true hi]; rfl
  have hval : w.toNat / 2 ^ 22 % 2 ^ 9 = 511 := by
    rw [← Nat.shiftRight_eq_div_pow, ← BitVec.extractLsb'_toNat, hones]; rfl
  rw [isNaN_iff, absBits]
  omega

/-- The exponent bits of a NaN are set. -/
theorem getLsbD_exponent_of_isNaN {w : Word} (h : isNaN w = true) {i : Nat} (hi : i < 8) :
    w.getLsbD (23 + i) = true := by
  have hones : w.extractLsb' 23 8 = BitVec.allOnes 8 := by
    have hexp : fpExp w = 255 := by
      simp only [isNaN, Bool.and_eq_true, beq_iff_eq] at h
      exact h.1
    exact BitVec.eq_of_toNat_eq hexp
  have hbit : (w.extractLsb' 23 8).getLsbD i = (BitVec.allOnes 8).getLsbD i := by rw [hones]
  rwa [BitVec.getLsbD_extractLsb', BitVec.getLsbD_allOnes, decide_eq_true hi, Bool.true_and] at hbit

/-- Setting the quiet bit of a NaN leaves a NaN. -/
theorem isNaN_or_quietBit {w : Word} (h : isNaN w = true) : isNaN (w ||| 0x00400000) = true := by
  refine isNaN_of_high_bits fun i hi => ?_
  cases i with
  | zero => exact quiet_bit w
  | succ i =>
    have hbit := getLsbD_exponent_of_isNaN h (show i < 8 by omega)
    rw [show 23 + i = 22 + (i + 1) by omega] at hbit
    rw [BitVec.getLsbD_or, hbit, Bool.true_or]

/-- Whatever word is joined to `DefaultQNaN`, the result is a quiet NaN. -/
theorem quiet_or_defaultQNaN (w : Word) :
    isNaN (w ||| defaultQNaN) = true ∧ (w ||| defaultQNaN).getLsbD 22 = true := by
  have hdefault : ∀ i, i < 9 → defaultQNaN.getLsbD (22 + i) = true := by decide
  have hbits (i : Nat) (hi : i < 9) : (w ||| defaultQNaN).getLsbD (22 + i) = true := by
    rw [BitVec.getLsbD_or, hdefault i hi, Bool.or_true]
  exact ⟨isNaN_of_high_bits hbits, hbits 0 (by decide)⟩

theorem quiet_firstNaN (ws : List Word) : isNaN (firstNaN ws) = true ∧ (firstNaN ws).getLsbD 22 = true := by
  induction ws with
  | nil => decide
  | cons w ws ih =>
    rw [firstNaN]
    split
    case isTrue h => exact ⟨isNaN_or_quietBit h, quiet_bit w⟩
    case isFalse => exact ih

/-- The NaN that an operation returns is one that R323 allows. -/
theorem quietNaN_nanWord (s : State) (op : FpOp) (ws : List Word) : QuietNaN s ws (s.nanWord op ws) := by
  unfold State.nanWord
  cases hrule : s.nanRule with
  | firstOperand => exact ⟨(quiet_firstNaN ws).1, (quiet_firstNaN ws).2, fun _ => rfl⟩
  | free =>
    obtain ⟨hnan, hquiet⟩ := quiet_or_defaultQNaN (Config.nanPayload op ws)
    exact ⟨hnan, hquiet, fun h => by simp [hrule] at h⟩

/-- Operands that are no NaN do not decide which NaN is returned. -/
theorem firstNaN_eq_default {ws : List Word} (h : ∀ w ∈ ws, isNaN w = false) : firstNaN ws = defaultQNaN := by
  induction ws with
  | nil => rfl
  | cons w ws ih =>
    obtain ⟨hw, hws⟩ := List.forall_mem_cons.1 h
    rw [firstNaN, hw, if_neg (by decide), ih hws]

theorem quietNaN_of_no_operand {s : State} {ws : List Word} {r : Word} (hr : QuietNaN s ws r)
    (h : ∀ w ∈ ws, isNaN w = false) : QuietNaN s [] r := by
  obtain ⟨hnan, hquiet, hrule⟩ := hr
  exact ⟨hnan, hquiet, fun hfirst => (hrule hfirst).trans (firstNaN_eq_default h)⟩

/-! The flush. -/

theorem flushedWord_eq_njWord (s : State) (x : Vec) (k : Nat) : flushedWord s x k = njWord s (elem 32 x k) :=
  flushNJ_eq_njWord s _

/-- A flushed word has the sign of the word, and its bits unless these are denormalized. -/
theorem njWord_eq_ite (s : State) (w : Word) :
    njWord s w = if s.nj = true ∧ fpExp w = 0 then zeroOf (fpSign w) else w := by
  unfold njWord
  rw [← and_signMask]
  rfl

theorem fpSign_njWord (s : State) (w : Word) : fpSign (njWord s w) = fpSign w := by
  rw [njWord_eq_ite]
  split
  · exact fpSign_zeroOf _
  · rfl

/-- The flush leaves a word that is not denormalized alone. -/
theorem njWord_eq_self (s : State) {w : Word} (h : isZero w = true ∨ fpExp w ≠ 0) : njWord s w = w := by
  rw [njWord_eq_ite]
  split
  case isTrue hflush =>
    have hzero := (isZero_iff w).1 (h.resolve_right (not_not.2 hflush.2))
    exact word_ext (by rw [absBits_zeroOf, hzero]) (fpSign_zeroOf _)
  case isFalse => rfl

theorem njWord_zeroOf (s : State) (σ : Bool) : njWord s (zeroOf σ) = zeroOf σ :=
  njWord_eq_self s (.inl (by rw [isZero_iff, absBits_zeroOf]))

theorem njWord_of_isInf (s : State) {w : Word} (h : isInf w = true) : njWord s w = w := by
  have hbits := (isInf_iff w).1 h
  exact njWord_eq_self s (.inr (by rw [fpExp_eq]; omega))

theorem njWord_of_isNaN (s : State) {w : Word} (h : isNaN w = true) : njWord s w = w := by
  have hbits := (isNaN_iff w).1 h
  exact njWord_eq_self s (.inr (by rw [fpExp_eq]; omega))

theorem njWord_infOf (s : State) (σ : Bool) : njWord s (infOf σ) = infOf σ :=
  njWord_of_isInf s (by rw [isInf_iff, absBits_infOf])

/-- The flush makes no NaN. -/
theorem isNaN_njWord (s : State) (w : Word) : isNaN (njWord s w) = isNaN w := by
  by_cases hexp : fpExp w = 0
  · have hbits : absBits w < 2 ^ 23 := by rw [fpExp_eq] at hexp; omega
    have hw : isNaN w = false := (isNaN_eq_false_iff w).2 (by omega)
    rw [njWord_eq_ite, hw, isNaN_eq_false_iff]
    split
    · rw [absBits_zeroOf]; decide
    · omega
  · rw [njWord_eq_self s (.inr hexp)]

theorem quietNaN_njWord {s : State} {ws : List Word} {r : Word} (h : QuietNaN s ws r) : QuietNaN s ws (njWord s r) := by
  rwa [njWord_of_isNaN s h.1]

theorem njWord_fpNeg (s : State) (w : Word) : njWord s (fpNeg w) = fpNeg (njWord s w) := by
  have hexp : fpExp (fpNeg w) = fpExp w := by rw [fpExp_eq, fpExp_eq, absBits_fpNeg]
  rw [njWord_eq_ite, njWord_eq_ite, hexp, fpSign_fpNeg, apply_ite fpNeg]
  cases fpSign w <;> rfl

/-! Classes and special words. -/

theorem isNaN_fpNeg (w : Word) : isNaN (fpNeg w) = isNaN w := by
  rw [Bool.eq_iff_iff, isNaN_iff, isNaN_iff, absBits_fpNeg]

theorem isInf_fpNeg (w : Word) : isInf (fpNeg w) = isInf w := by
  rw [Bool.eq_iff_iff, isInf_iff, isInf_iff, absBits_fpNeg]

theorem isFinite_of_not_special {w : Word} (hnan : isNaN w = false) (hinf : isInf w = false) : isFinite w = true := by
  rw [isNaN_eq_false_iff] at hnan
  rw [← Bool.not_eq_true, isInf_iff] at hinf
  rw [isFinite_iff]
  omega

theorem eq_zeroOf_of_isZero {w : Word} (h : isZero w = true) : w = zeroOf (fpSign w) :=
  word_ext (by rw [absBits_zeroOf, (isZero_iff w).1 h]) (fpSign_zeroOf _).symm

theorem eq_infOf_of_isInf {w : Word} (h : isInf w = true) : w = infOf (fpSign w) :=
  word_ext (by rw [absBits_infOf, (isInf_iff w).1 h]) (fpSign_infOf _).symm

theorem eq_negZero_iff (w : Word) : w = 0x80000000 ↔ isZero w = true ∧ fpSign w = true := by
  constructor
  · rintro rfl
    decide
  · rintro ⟨hzero, hsign⟩
    rw [eq_zeroOf_of_isZero hzero, hsign]
    rfl

/-! The order (R324). -/

theorem fpScaled_of_isInf {w : Word} (h : isInf w = true) :
    fpScaled w = if fpSign w then -(2 ^ 24 * 2 ^ 253) else 2 ^ 24 * 2 ^ 253 := by
  rw [fpScaled, fpMag_eq, (isInf_iff w).1 h, magOf_inf]
  rfl

theorem abs_fpScaled_lt_of_finite {w : Word} (h : isFinite w = true) : |fpScaled w| < 2 ^ 24 * 2 ^ 253 := by
  rw [Int.abs_eq_natAbs, fpScaled_natAbs]
  have hlt := fpMag_lt_of_finite h
  exact_mod_cast hlt.trans (by norm_num)

theorem fpRat_le_iff (a b : Word) : fpRat a ≤ fpRat b ↔ fpScaled a ≤ fpScaled b := by
  rw [fpRat, fpRat, div_le_div_iff_of_pos_right (by positivity), Int.cast_le]

/-- The model's integers order words as their extended values do: an infinity stands beyond every finite word. -/
theorem fpExt_le_iff {a b : Word} (ha : isNaN a = false) (hb : isNaN b = false) :
    fpExt a ≤ fpExt b ↔ fpScaled a ≤ fpScaled b := by
  have hpos : (0 : Int) < 2 ^ 24 * 2 ^ 253 := by positivity
  have hclass (w : Word) (hw : isNaN w = false) :
      (isInf w = true ∧ fpScaled w = if fpSign w then -(2 ^ 24 * 2 ^ 253) else 2 ^ 24 * 2 ^ 253) ∨
        (isInf w = false ∧ -(2 ^ 24 * 2 ^ 253) < fpScaled w ∧ fpScaled w < 2 ^ 24 * 2 ^ 253) := by
    cases hinf : isInf w with
    | true => exact .inl ⟨rfl, fpScaled_of_isInf hinf⟩
    | false => exact .inr ⟨rfl, abs_lt.1 (abs_fpScaled_lt_of_finite (isFinite_of_not_special hw hinf))⟩
  rw [fpExt, fpExt]
  generalize (2 ^ 24 * 2 ^ 253 : Int) = top at *
  obtain ⟨hia, hsa⟩ | ⟨hia, hla, hua⟩ := hclass a ha <;> obtain ⟨hib, hsb⟩ | ⟨hib, hlb, hub⟩ := hclass b hb
  · rw [if_pos hia, if_pos hib, hsa, hsb]
    cases fpSign a <;> cases fpSign b <;> simp <;> omega
  · rw [if_pos hia, if_neg (Bool.eq_false_iff.1 hib), hsa]
    cases fpSign a <;> simp <;> omega
  · rw [if_neg (Bool.eq_false_iff.1 hia), if_pos hib, hsb]
    cases fpSign b <;> simp <;> omega
  · rw [if_neg (Bool.eq_false_iff.1 hia), if_neg (Bool.eq_false_iff.1 hib), WithBot.coe_le_coe, WithTop.coe_le_coe, fpRat_le_iff]

theorem fpLe_iff (a b : Word) : fpLe a b = true ↔ FpLe a b := by
  unfold fpLe FpLe
  cases ha : isNaN a
  · cases hb : isNaN b
    · simp [fpExt_le_iff ha hb]
    · simp
  · simp

end Sys2Proof.Proofs
end

section
/-! PROOFS. Floating-point arithmetic (49_float.md R326 to R331, R336, R337): after the special operands, each result is
the rounding of the exact value that the statement names, and the zeros are those of the signs. -/

namespace Sys2Proof.Proofs
open Sys2Proof Sys2Proof.Machine

theorem fpRat_fpNeg (w : Word) : fpRat (fpNeg w) = -fpRat w := by
  rw [fpRat, fpScaled_fpNeg, fpRat]
  push_cast
  ring

/-- A rounded and flushed quotient is a result of R322 with the flush of R321. -/
theorem roundsFlushed_roundNE (s : State) {z : Int} {d : Nat} {q : ℚ} (hz : z ≠ 0) (hd : 0 < d)
    (hq : q = (z : ℚ) / d / 2 ^ 149) : RoundsFlushed s q (njWord s (roundNE z d)) :=
  ⟨_, hq ▸ roundingToNearestEven z d hz hd, rfl⟩

theorem zeroOf_eq_ite (σ : Bool) : zeroOf σ = if σ = true then 0x80000000 else 0 := rfl

/-! Addition and subtraction. -/

theorem fpAdd_of_isNaN {nan a b : Word} (h : isNaN a = true ∨ isNaN b = true) : fpAdd nan a b = nan := by
  rw [fpAdd, if_pos (by simpa using h)]

/-- The sum of two words that are no NaN, by the classes in the order of R322. -/
theorem fpAdd_of_not_isNaN (nan : Word) {a b : Word} (ha : isNaN a = false) (hb : isNaN b = false) :
    fpAdd nan a b =
      if isInf a = true ∧ isInf b = true ∧ fpSign a ≠ fpSign b then nan
      else if isInf a = true then a
      else if isInf b = true then b
      else if fpScaled a + fpScaled b = 0 then zeroOf (isZero a && isZero b && fpSign a && fpSign b)
      else roundNE (fpScaled a + fpScaled b) 1 := by
  rw [fpAdd, if_neg (by simp [ha, hb])]
  simp only [Bool.and_eq_true, bne_iff_ne, and_assoc]

/-- The sum of two words that are no NaN, flushed, whatever quiet NaN is returned for infinities that cancel. -/
theorem sumResult_fpAdd {s : State} {nan a b : Word} (hnan : QuietNaN s [] nan) (ha : isNaN a = false)
    (hb : isNaN b = false) : SumResult s a b (njWord s (fpAdd nan a b)) := by
  rw [SumResult, fpAdd_of_not_isNaN nan ha hb]
  by_cases hcancel : isInf a = true ∧ isInf b = true ∧ fpSign a ≠ fpSign b
  · rw [if_pos hcancel, if_pos hcancel]
    exact quietNaN_njWord hnan
  rw [if_neg hcancel, if_neg hcancel]
  by_cases hinfa : isInf a = true
  · rw [if_pos hinfa, if_pos hinfa, njWord_of_isInf s hinfa]
  rw [if_neg hinfa, if_neg hinfa]
  by_cases hinfb : isInf b = true
  · rw [if_pos hinfb, if_pos hinfb, njWord_of_isInf s hinfb]
  rw [if_neg hinfb, if_neg hinfb]
  have hsum : fpRat a + fpRat b = ((fpScaled a + fpScaled b : Int) : ℚ) / (1 : Nat) / 2 ^ 149 := by
    rw [fpRat, fpRat]
    push_cast
    ring
  have hzero : fpRat a + fpRat b = 0 ↔ fpScaled a + fpScaled b = 0 := by
    rw [hsum, div_eq_zero_iff, div_eq_zero_iff, Int.cast_eq_zero]
    norm_num
  simp only [hzero]
  split
  case isTrue =>
    rw [njWord_zeroOf, zeroOf_eq_ite]
    simp only [eq_negZero_iff, Bool.and_eq_true]
    exact if_congr (by tauto) rfl rfl
  case isFalse hne => exact roundsFlushed_roundNE s hne (by decide) hsum

/-- Settles O47: subtraction is the addition of the negated word, but for a NaN. -/
theorem floatAddSubtract : Obligations.float_add_subtract := by
  intro s vd va vb hvec
  refine ⟨_, _, writesElements_writeVr (.inr (.inr rfl)) hvec vd _, writesElements_writeVr (.inr (.inr rfl)) hvec vd _,
    fun k a b _ ha hb => ?_⟩
  simp only [fpMap2, flushedWord_eq_njWord, flushNJ_eq_njWord, ← ha, ← hb]
  have hnan (op : FpOp) := quietNaN_nanWord s op [a, b]
  refine ⟨fun h => ?_, fun hna hnb => ?_⟩
  · rw [fpAdd_of_isNaN h, fpSub, if_pos (by simpa using h)]
    exact ⟨quietNaN_njWord (hnan _), quietNaN_njWord (hnan _)⟩
  · have hnan' (op : FpOp) := quietNaN_of_no_operand (hnan op) (by simp [hna, hnb])
    rw [fpSub, if_neg (by simp [hna, hnb])]
    exact ⟨sumResult_fpAdd (hnan' _) hna hnb, sumResult_fpAdd (hnan' _) hna ((isNaN_fpNeg b).trans hnb)⟩

/-! Multiply-add. -/

theorem fpMulAdd_of_isNaN {nan a c b : Word} (h : isNaN a = true ∨ isNaN b = true ∨ isNaN c = true) :
    fpMulAdd nan a c b = nan := by
  rw [fpMulAdd, if_pos (by simpa [or_assoc] using h)]

/-- The multiply-add of three words that are no NaN, by the classes in the order of R322. -/
theorem fpMulAdd_of_not_isNaN (nan : Word) {a c b : Word} (ha : isNaN a = false) (hb : isNaN b = false)
    (hc : isNaN c = false) : fpMulAdd nan a c b =
      if isInf a = true ∧ isZero c = true ∨ isZero a = true ∧ isInf c = true then nan
      else if isInf a = true ∨ isInf c = true then
        if isInf b = true ∧ fpSign b = (fpSign a == fpSign c) then nan else infOf (fpSign a != fpSign c)
      else if isInf b = true then b
      else if fpExactMulAdd a c b = 0 then
        zeroOf ((isZero a || isZero c) && isZero b && fpSign b == (fpSign a != fpSign c) && fpSign b)
      else roundNE (fpExactMulAdd a c b) fpUnit := by
  have hcancel : (isInf b && fpSign b != (fpSign a != fpSign c)) = true ↔
      isInf b = true ∧ fpSign b = (fpSign a == fpSign c) := by
    cases isInf b <;> cases fpSign a <;> cases fpSign b <;> cases fpSign c <;> decide
  rw [fpMulAdd, if_neg (by simp [ha, hb, hc])]
  simp only [hcancel, Bool.or_eq_true, Bool.and_eq_true]

/-- The multiply-add of three words that are no NaN, flushed. -/
theorem multiplyAddResult_fpMulAdd {s : State} {nan a c b : Word} (hnan : QuietNaN s [] nan) (ha : isNaN a = false)
    (hb : isNaN b = false) (hc : isNaN c = false) : MultiplyAddResult s a c b (njWord s (fpMulAdd nan a c b)) := by
  rw [MultiplyAddResult, fpMulAdd_of_not_isNaN nan ha hb hc]
  by_cases hinvalid : isInf a = true ∧ isZero c = true ∨ isZero a = true ∧ isInf c = true
  · rw [if_pos hinvalid, if_pos hinvalid]
    exact quietNaN_njWord hnan
  rw [if_neg hinvalid, if_neg hinvalid]
  by_cases hinf : isInf a = true ∨ isInf c = true
  · rw [if_pos hinf, if_pos hinf]
    split
    case isTrue => exact quietNaN_njWord hnan
    case isFalse =>
      rw [njWord_infOf]
      cases fpSign a <;> cases fpSign c <;> rfl
  rw [if_neg hinf, if_neg hinf]
  by_cases hinfb : isInf b = true
  · rw [if_pos hinfb, if_pos hinfb, njWord_of_isInf s hinfb]
  rw [if_neg hinfb, if_neg hinfb]
  have hexact : fpRat a * fpRat c + fpRat b = ((fpExactMulAdd a c b : Int) : ℚ) / fpUnit / 2 ^ 149 := by
    rw [fpRat, fpRat, fpRat, fpExactMulAdd, fpUnit]
    push_cast
    ring
  have hzero : fpRat a * fpRat c + fpRat b = 0 ↔ fpExactMulAdd a c b = 0 := by
    rw [hexact, div_eq_zero_iff, div_eq_zero_iff, Int.cast_eq_zero]
    norm_num [fpUnit]
  simp only [hzero]
  split
  case isTrue =>
    rw [njWord_zeroOf, zeroOf_eq_ite]
    simp only [eq_negZero_iff, Bool.and_eq_true, Bool.or_eq_true, beq_iff_eq]
    refine if_congr ?_ rfl rfl
    cases fpSign a <;> cases fpSign b <;> cases fpSign c <;> simp
  case isFalse hne => exact roundsFlushed_roundNE s hne (by unfold fpUnit; positivity) hexact

/-- Settles O48: the negated multiply-subtract is the multiply-add of the negated addend with its sign turned, and the
flush commutes with the turn of the sign. -/
theorem floatMultiplyAdd : Obligations.float_multiply_add := by
  intro s vd va vc vb hvec
  refine ⟨_, _, writesElements_writeVr (.inr (.inr rfl)) hvec vd _, writesElements_writeVr (.inr (.inr rfl)) hvec vd _,
    fun k a c b _ ha hc hb => ?_⟩
  simp only [fpMap3, flushedWord_eq_njWord, flushNJ_eq_njWord, ← ha, ← hb, ← hc]
  have hnan (op : FpOp) := quietNaN_nanWord s op [a, b, c]
  refine ⟨fun h => ?_, fun hna hnb hnc => ?_⟩
  · rw [fpMulAdd_of_isNaN h, fpNegMulSub, if_pos (by simpa [or_assoc] using h)]
    exact ⟨quietNaN_njWord (hnan _), quietNaN_njWord (hnan _)⟩
  · have hnan' (op : FpOp) := quietNaN_of_no_operand (hnan op) (by simp [hna, hnb, hnc])
    refine ⟨multiplyAddResult_fpMulAdd (hnan' _) hna hnb hnc, _,
      multiplyAddResult_fpMulAdd (hnan' .nmsub) hna ((isNaN_fpNeg b).trans hnb) hnc, ?_⟩
    rw [fpNegMulSub, if_neg (by simp [hna, hnb, hnc]), isNaN_njWord]
    exact (apply_ite (njWord s) _ _ _).trans (if_congr Iff.rfl rfl (njWord_fpNeg s _))

/-! Maximum and minimum. -/

theorem and_of_isZero {a b : Word} (ha : isZero a = true) (hb : isZero b = true) :
    a &&& b = zeroOf (fpSign a && fpSign b) := by
  refine (congrArg₂ (· &&& ·) (eq_zeroOf_of_isZero ha) (eq_zeroOf_of_isZero hb)).trans ?_
  cases fpSign a <;> cases fpSign b <;> rfl

theorem or_of_isZero {a b : Word} (ha : isZero a = true) (hb : isZero b = true) :
    a ||| b = zeroOf (fpSign a || fpSign b) := by
  refine (congrArg₂ (· ||| ·) (eq_zeroOf_of_isZero ha) (eq_zeroOf_of_isZero hb)).trans ?_
  cases fpSign a <;> cases fpSign b <;> rfl

/-- The smaller and the greater of two words that are no NaN, by the order of R324. -/
theorem ordered_of_not_fpLe {a b : Word} (ha : isNaN a = false) (hb : isNaN b = false) (h : ¬FpLe a b) : FpLe b a := by
  simp only [FpLe, ha, hb, fpExt_le_iff ha hb, true_and, not_le] at h
  exact ⟨hb, ha, (fpExt_le_iff hb ha).2 h.le⟩

theorem fpLe_refl {a : Word} (ha : isNaN a = false) : FpLe a a := ⟨ha, ha, le_rfl⟩

theorem fpMax_of_not_isNaN (nan : Word) {a b : Word} (ha : isNaN a = false) (hb : isNaN b = false) :
    fpMax nan a b =
      if isZero a = true ∧ isZero b = true then a &&& b else if fpGe a b = true then a else b := by
  rw [fpMax, if_neg (by simp [ha, hb])]
  simp only [Bool.and_eq_true]

theorem fpMin_of_not_isNaN (nan : Word) {a b : Word} (ha : isNaN a = false) (hb : isNaN b = false) :
    fpMin nan a b =
      if isZero a = true ∧ isZero b = true then a ||| b else if fpLt a b = true then a else b := by
  rw [fpMin, if_neg (by simp [ha, hb])]
  simp only [Bool.and_eq_true]

/-- Settles O49: an operand is returned by the order, and of two zeros the one whose sign both or one have. -/
theorem floatMaximumMinimum : Obligations.float_maximum_minimum := by
  intro s vd va vb hvec
  refine ⟨_, _, writesElements_writeVr (.inr (.inr rfl)) hvec vd _, writesElements_writeVr (.inr (.inr rfl)) hvec vd _,
    fun k a b _ ha hb => ?_⟩
  simp only [fpMap2, flushedWord_eq_njWord, ← ha, ← hb]
  by_cases hnan : isNaN a = true ∨ isNaN b = true
  · rw [if_pos hnan, fpMax, if_pos (by simpa using hnan), fpMin, if_pos (by simpa using hnan)]
    exact ⟨quietNaN_nanWord s _ _, quietNaN_nanWord s _ _⟩
  obtain ⟨hna, hnb⟩ : isNaN a = false ∧ isNaN b = false := by simpa using hnan
  rw [if_neg hnan, fpMax_of_not_isNaN _ hna hnb, fpMin_of_not_isNaN _ hna hnb]
  by_cases hzero : isZero a = true ∧ isZero b = true
  · rw [if_pos hzero, if_pos hzero, if_pos hzero]
    obtain ⟨hza, hzb⟩ := hzero
    rw [and_of_isZero hza hzb, or_of_isZero hza hzb]
    simp only [eq_negZero_iff, hza, hzb, true_and, zeroOf_eq_ite, Bool.and_eq_true, Bool.or_eq_true, and_self]
  rw [if_neg hzero, if_neg hzero, if_neg hzero]
  have hge : fpGe a b = true ↔ FpLe b a := by rw [← fpLe_iff]; simp [fpGe, fpLe, hna, hnb]
  have hlt : fpLt a b = true ↔ ¬FpLe b a := by rw [← fpLe_iff]; simp [fpLt, fpLe, hna, hnb]
  by_cases hle : FpLe b a
  · rw [if_pos (hge.2 hle), if_neg fun h => hlt.1 h hle]
    exact ⟨.inl rfl, fpLe_refl hna, hle, .inr rfl, hle, fpLe_refl hnb⟩
  · rw [if_neg fun h => hle (hge.1 h), if_pos (hlt.2 hle)]
    have hle' := ordered_of_not_fpLe hnb hna hle
    exact ⟨.inr rfl, hle', fpLe_refl hnb, .inl rfl, fpLe_refl hna, hle'⟩

/-! From integers. -/

theorem fpOfInt_zero (u : Nat) : fpOfInt 0 u = 0 := rfl

/-- A nonzero integer divided by a power of two, rounded once. -/
theorem roundsTo_fpOfInt {z : Int} (hz : z ≠ 0) (u : Nat) : RoundsTo ((z : ℚ) / 2 ^ u) (fpOfInt z u) := by
  have hunit : (fpUnit : Int) ≠ 0 := by unfold fpUnit; positivity
  have hrounds := roundingToNearestEven (z * (fpUnit : Int)) (2 ^ u) (mul_ne_zero hz hunit) (by positivity)
  have hquot : ((z * (fpUnit : Int) : Int) : ℚ) / (2 ^ u : Nat) / 2 ^ 149 = (z : ℚ) / 2 ^ u := by
    unfold fpUnit
    push_cast
    field_simp
    norm_num
  rw [fpOfInt, if_neg hz]
  rwa [hquot] at hrounds

/-- Settles O51: the signed and the unsigned reading of a word are zero only for the word 0. -/
theorem floatFromInteger : Obligations.float_from_integer := by
  intro s vd vb u hvec
  refine ⟨_, _, writesElements_writeVr (.inr (.inr rfl)) hvec vd _, writesElements_writeVr (.inr (.inr rfl)) hvec vd _,
    fun k x _ hx => ?_⟩
  rw [← hx]
  refine ⟨?_, fun hne => ⟨roundsTo_fpOfInt (fun h => hne (BitVec.toInt_inj.1 h)) _, ?_⟩⟩
  · rintro rfl
    exact ⟨fpOfInt_zero _, fpOfInt_zero _⟩
  · have hnat : x.toNat ≠ 0 := fun h => hne (BitVec.eq_of_toNat_eq h)
    have hrounds := roundsTo_fpOfInt (z := (x.toNat : Int)) (by exact_mod_cast hnat) u.toNat
    rwa [Int.cast_natCast] at hrounds

end Sys2Proof.Proofs
end

section
/-! PROOFS. The floating-point compares (49_float.md R332 to R335). -/

namespace Sys2Proof.Proofs
open Sys2Proof Sys2Proof.Machine

theorem fpGe_iff (a b : Word) : fpGe a b = true ↔ FpLe b a := by
  rw [← fpLe_iff, fpGe, fpLe, Bool.and_comm (!isNaN a)]

theorem fpEq_iff (a b : Word) : fpEq a b = true ↔ FpLe a b ∧ FpLe b a := by
  have hantisymm : fpScaled a = fpScaled b ↔ fpScaled a ≤ fpScaled b ∧ fpScaled b ≤ fpScaled a := le_antisymm_iff
  rw [← fpLe_iff, ← fpLe_iff]
  simp only [fpEq, fpLe, Bool.and_eq_true, decide_eq_true_iff, hantisymm]
  tauto

theorem fpGt_iff (a b : Word) : fpGt a b = true ↔ FpLe b a ∧ ¬FpLe a b := by
  rw [← fpLe_iff, ← fpLe_iff]
  simp only [fpGt, fpLe, Bool.and_eq_true, decide_eq_true_iff, lt_iff_le_not_ge]
  tauto

/-! One element of the bounds compare. -/

theorem getLsbD_31_fpBounds (a b : Word) : (fpBounds a b).getLsbD 31 = true ↔ ¬FpLe a b := by
  have hbit : (fpBounds a b).getLsbD 31 = !fpLe a b := by
    simp only [fpBounds, BitVec.getLsbD_append, BitVec.getLsbD_ofBool]
    simp
  rw [hbit, Bool.not_eq_true', ← Bool.not_eq_true, fpLe_iff]

theorem getLsbD_30_fpBounds (a b : Word) : (fpBounds a b).getLsbD 30 = true ↔ ¬FpLe (fpNeg b) a := by
  have hbit : (fpBounds a b).getLsbD 30 = !fpGe a (fpNeg b) := by
    simp only [fpBounds, BitVec.getLsbD_append, BitVec.getLsbD_ofBool]
    simp
  rw [hbit, Bool.not_eq_true', ← Bool.not_eq_true, fpGe_iff]

theorem fpBounds_low (a b : Word) : (fpBounds a b).extractLsb' 0 30 = 0 := by
  rw [fpBounds, extract_append_low _ _ le_rfl]
  exact extract_all _

/-- An element is zero where the operand is in bounds. -/
theorem fpBounds_eq_zero_iff (a b : Word) : fpBounds a b = 0 ↔ FpLe a b ∧ FpLe (fpNeg b) a := by
  constructor
  · intro h
    have h31 := getLsbD_31_fpBounds a b
    have h30 := getLsbD_30_fpBounds a b
    rw [h] at h31 h30
    exact ⟨not_not.1 fun hn => absurd (h31.2 hn) (by decide), not_not.1 fun hn => absurd (h30.2 hn) (by decide)⟩
  · rintro ⟨hle, hge⟩
    rw [fpBounds, (fpLe_iff a b).2 hle, (fpGe_iff a (fpNeg b)).2 hge]
    rfl

theorem cr6OfBounds_zero : cr6OfBounds 0 = 0b0010 := by decide

theorem cr6OfBounds_of_ne_zero {v : Vec} (h : v ≠ 0) : cr6OfBounds v = 0b0000 := by
  rw [cr6OfBounds, beq_false_of_ne h]
  rfl

/-- A vector of words is zero exactly where all four are. -/
theorem vecOf_eq_zero_iff (f : Nat → Word) : vecOf 32 f = 0 ↔ ∀ k, k < 4 → f k = 0 := by
  have hzero (k : Nat) : elem 32 (0 : Vec) k = 0 := BitVec.extractLsb'_zero
  constructor
  · intro h k hk
    rw [← elem32_vecOf f hk, h, hzero]
  · exact fun h => vec_ext 32 (.inr (.inr rfl)) fun k hk => by rw [elem32_vecOf f hk, h k hk, hzero]

/-- Settles O50: each test of the three compares decides its relation, and the bounds compare writes zero exactly where
all elements are in bounds. -/
theorem floatCompares : Obligations.float_compares := by
  rintro s vd va vb rc a b hvec rfl rfl
  have compare {f : Word → Word → Bool} {p : Word → Word → Prop} (hp : ∀ x y, f x y = true ↔ p x y) :
      WritesCompare 32 vd rc s (writeVrCr6 s vd rc (fpCompare s f (s.getVr va) (s.getVr vb))) fun k =>
        p (njWord s (elem 32 (s.getVr va) k)) (njWord s (elem 32 (s.getVr vb) k)) := by
    simp only [fpCompare, flushedWord_eq_njWord]
    exact writesCompare_compared (.inr (.inr rfl)) hvec vd rc fun k => hp _ _
  refine ⟨compare fpEq_iff, compare fpGe_iff, compare fpGt_iff, ?_⟩
  obtain ⟨t, hnext, hvr, hcr, hcr6, hrest⟩ := writeVrCr6_leaves hvec vd rc
    (fpBoundsVec s (s.getVr va) (s.getVr vb), cr6OfBounds (fpBoundsVec s (s.getVr va) (s.getVr vb)))
  simp only [fpBoundsVec, flushedWord_eq_njWord] at hvr hcr6
  refine ⟨t, hnext, fun k hk => ?_, hcr, fun hrc hall => ?_, fun hrc ⟨k, hk, hout⟩ => ?_, hrest⟩
  · rw [hvr, elem32_vecOf _ hk]
    exact ⟨getLsbD_31_fpBounds _ _, getLsbD_30_fpBounds _ _, fpBounds_low _ _⟩
  · have hzero := (vecOf_eq_zero_iff _).2 fun k hk => (fpBounds_eq_zero_iff _ _).2 (hall k hk)
    have h := hcr6 hrc
    rwa [hzero, cr6OfBounds_zero] at h
  · have h := hcr6 hrc
    rwa [cr6OfBounds_of_ne_zero fun hzero => hout ((fpBounds_eq_zero_iff _ _).1 ((vecOf_eq_zero_iff _).1 hzero k hk))]
      at h

end Sys2Proof.Proofs
end

section
/-! PROOFS. Exact results of rounding, and the roundings to an integral value (49_float.md R340 to R343): an integer
within less than one of a word is a word itself, so the rounded result is that integer. -/

namespace Sys2Proof.Proofs
open Sys2Proof Sys2Proof.Machine

/-! Representable values. -/

/-- A significand of at most 24 bits at a place below the last is the magnitude of a finite word: shifted to the left it
becomes normal, or its place becomes 2^-149. -/
theorem exists_finite_of_significand (σ : Bool) (sh k : Nat) (hk : k ≤ 2 ^ 24) (hsh : sh ≤ 252) :
    ∃ w, isFinite w = true ∧ fpSign w = σ ∧ fpMag w = k * 2 ^ sh := by
  induction sh generalizing k with
  | zero =>
    have hlt : k < 2 ^ 31 := by omega
    have hmag : magOf k = k * 2 ^ 0 := by simpa using magOf_add (sh := 0) hk (.inl rfl)
    refine ⟨_, ?_, fpSign_or_zeroOf hlt σ, ?_⟩
    · rw [isFinite_iff, absBits_or_zeroOf hlt]; omega
    · rw [fpMag_eq, absBits_or_zeroOf hlt, hmag]
  | succ sh ih =>
    by_cases hnormal : 2 ^ 23 ≤ k
    · have hlt : (sh + 1) * 2 ^ 23 + k < 2 ^ 31 := by omega
      refine ⟨_, ?_, fpSign_or_zeroOf hlt σ, ?_⟩
      · rw [isFinite_iff, absBits_or_zeroOf hlt]; omega
      · rw [fpMag_eq, absBits_or_zeroOf hlt, magOf_add hk (.inr hnormal)]
    · obtain ⟨w, hfin, hsign, hmag⟩ := ih (k * 2) (by omega) (by omega)
      exact ⟨w, hfin, hsign, by rw [hmag, pow_succ]; ring⟩

/-- A signed significand. -/
theorem exists_finite_of_intSignificand (j : Int) {sh : Nat} (hj : |j| ≤ 2 ^ 24) (hsh : sh ≤ 252) :
    ∃ w, isFinite w = true ∧ fpRat w = j * 2 ^ sh / 2 ^ 149 := by
  obtain ⟨w, hfin, hsign, hmag⟩ := exists_finite_of_significand (decide (j < 0)) sh j.natAbs
    (by rw [Int.abs_eq_natAbs] at hj; omega) hsh
  refine ⟨w, hfin, ?_⟩
  rw [fpRat, fpScaled_eq_signFactor_mul, ← fpMag_eq, hmag, hsign, intCast_eq_signFactor_mul j]
  push_cast
  ring

theorem abs_fpRat_lt_of_finite {w : Word} (h : isFinite w = true) : |fpRat w| < 2 ^ 128 - 2 ^ 103 := by
  have hmag : ((fpMag w : Nat) : ℚ) < ((2 ^ 25 - 1) * 2 ^ 252 : Nat) := by exact_mod_cast fpMag_lt_of_finite h
  have habs : |(fpScaled w : ℚ)| = fpMag w := by rw [← Int.cast_abs, Int.abs_eq_natAbs, fpScaled_natAbs, Int.cast_natCast]
  rw [fpRat, abs_div, habs, abs_of_pos (show (0 : ℚ) < 2 ^ 149 by positivity), div_lt_iff₀ (by positivity)]
  exact hmag.trans_eq (by norm_num)

/-- A quotient that a finite word stands for is not changed by rounding. -/
theorem roundNE_exact {z : Int} {d : Nat} {w : Word} (hz : z ≠ 0) (hd : 0 < d) (hfin : isFinite w = true)
    (hw : fpRat w = z / d / 2 ^ 149) :
    isFinite (roundNE z d) = true ∧ fpRat (roundNE z d) = z / d / 2 ^ 149 := by
  obtain ⟨-, -, -, hnearest⟩ := roundingToNearestEven z d hz hd
  obtain ⟨hfinite, hle⟩ := hnearest (hw ▸ abs_fpRat_lt_of_finite hfin)
  have hzero := (hle w hfin).1
  rw [hw, sub_self, abs_zero] at hzero
  exact ⟨hfinite, sub_eq_zero.1 (abs_eq_zero.1 (le_antisymm hzero (abs_nonneg _)))⟩

/-! Integral values. -/

/-- A finite word stands for an integer or lies below 2^23. -/
theorem integral_or_small {w : Word} : (∃ i : Int, fpRat w = i) ∨ |fpRat w| < 2 ^ 23 := by
  obtain ⟨sh, k, -, hk, -, hmag⟩ := exists_significand (absBits w)
  have hw : fpRat w = signFactor (fpSign w) * ((k * 2 ^ sh : Nat) : ℚ) / 2 ^ 149 := by
    rw [fpRat, fpScaled_eq_signFactor_mul, hmag]
  rcases le_or_gt 149 sh with hsh | hsh
  · refine .inl ⟨(if fpSign w then -1 else 1) * (k * 2 ^ (sh - 149)), ?_⟩
    obtain ⟨e, rfl⟩ := Nat.exists_eq_add_of_le hsh
    rw [hw, Nat.add_sub_cancel_left, pow_add, signFactor]
    push_cast
    field_simp
    norm_num
  · refine .inr ?_
    have hk' : k * 2 ^ sh < 2 ^ 24 * 2 ^ 148 := Nat.mul_lt_mul_of_lt_of_le hk
      (Nat.pow_le_pow_right (by decide) (by omega)) (by positivity)
    rw [hw, abs_div, abs_mul, abs_signFactor, one_mul, Nat.abs_cast,
      abs_of_pos (show (0 : ℚ) < 2 ^ 149 by positivity), div_lt_iff₀ (by positivity)]
    have hk'' : ((k * 2 ^ sh : Nat) : ℚ) < (2 ^ 24 * 2 ^ 148 : Nat) := by exact_mod_cast hk'
    exact hk''.trans_eq (by norm_num)

/-- An integer within less than one of a finite word is a finite word. -/
theorem exists_finite_of_near {w : Word} (hfin : isFinite w = true) {i : Int} (hi : |(i : ℚ) - fpRat w| < 1) :
    ∃ v, isFinite v = true ∧ fpRat v = i := by
  rcases integral_or_small (w := w) with ⟨j, hj⟩ | hsmall
  · have hij : i = j := by
      rw [hj, ← Int.cast_sub, ← Int.cast_abs] at hi
      exact sub_eq_zero.1 (Int.abs_lt_one_iff.1 (by exact_mod_cast hi))
    exact ⟨w, hfin, hij ▸ hj⟩
  · have hbound : |i| ≤ 2 ^ 24 := by
      have htriangle := abs_sub_abs_le_abs_sub (i : ℚ) (fpRat w)
      have hlt : |(i : ℚ)| < 2 ^ 24 := by linarith
      exact_mod_cast hlt.le
    obtain ⟨v, hv, hrat⟩ := exists_finite_of_intSignificand i (sh := 149) hbound (by decide)
    exact ⟨v, hv, hrat.trans (by field_simp)⟩

/-! The four directions. -/

theorem fpRat_eq_div_unit (w : Word) : fpRat w = (fpScaled w : ℚ) / (fpUnit : ℚ) := by
  rw [fpRat, fpUnit]
  push_cast
  rfl

theorem fpIntegral_minus (w : Word) : fpIntegral .minus w = ⌊fpRat w⌋ := by
  rw [fpRat_eq_div_unit, Rat.floor_intCast_div_natCast]
  exact Int.fdiv_eq_ediv_of_nonneg _ (Int.natCast_nonneg _)

theorem fpIntegral_plus (w : Word) : fpIntegral .plus w = ⌈fpRat w⌉ := by
  rw [fpRat_eq_div_unit, Rat.ceil_intCast_div_natCast]
  exact congrArg (- ·) (Int.fdiv_eq_ediv_of_nonneg _ (Int.natCast_nonneg _))

theorem fpIntegral_zero (w : Word) : fpIntegral .zero w = towardZero (fpRat w) := by
  rw [fpRat_eq_div_unit, towardZero_div _ (by unfold fpUnit; positivity)]
  rfl

/-- The nearest integer is that of the magnitude, with the sign. -/
theorem fpIntegral_nearest (w : Word) :
    (fpIntegral .nearest w : ℚ) = signFactor (fpSign w) * (nearestEven (fpMag w) fpUnit : ℚ) := by
  unfold fpIntegral
  cases fpSign w <;> simp [signFactor]

theorem abs_nearestEven_sub_le (m : Nat) {d : Nat} (hd : 0 < d) : |(nearestEven m d : ℚ) - m / d| ≤ 1 / 2 ∧
    (|(nearestEven m d : ℚ) - m / d| = 1 / 2 → nearestEven m d % 2 = 0) := by
  obtain ⟨hle, hge, heven⟩ := nearestEven_spec m hd
  generalize nearestEven m d = k at *
  have hd' : (0 : ℚ) < d := by exact_mod_cast hd
  have herr : (k : ℚ) - m / d = (2 * (k * d) - 2 * m) / (2 * d) := by field_simp
  have hhalf : (1 / 2 : ℚ) = d / (2 * d) := by field_simp
  have hle' : (2 * m : ℚ) ≤ 2 * (k * d) + d := by exact_mod_cast hle
  have hge' : (2 * (k * d) : ℚ) ≤ 2 * m + d := by exact_mod_cast hge
  rw [herr, hhalf, abs_div, abs_of_pos (show (0 : ℚ) < 2 * d by positivity)]
  constructor
  · rw [div_le_div_iff_of_pos_right (by positivity), abs_le]
    constructor <;> linarith
  · rw [div_left_inj' (by positivity)]
    intro h
    rcases abs_choice (2 * (k * d) - 2 * m : ℚ) with habs | habs <;> rw [habs] at h
    · exact heven (.inr (by exact_mod_cast (by linarith : (2 * (k * d) : ℚ) = 2 * m + d)))
    · exact heven (.inl (by exact_mod_cast (by linarith : (2 * m : ℚ) = 2 * (k * d) + d)))

theorem fpIntegral_nearest_spec (w : Word) : |fpRat w - fpIntegral .nearest w| ≤ 1 / 2 ∧
    (|fpRat w - fpIntegral .nearest w| = 1 / 2 → fpIntegral .nearest w % 2 = 0) := by
  obtain ⟨hle, heven⟩ := abs_nearestEven_sub_le (fpMag w) (show 0 < fpUnit by unfold fpUnit; positivity)
  have hdist : |fpRat w - fpIntegral .nearest w| = |(nearestEven (fpMag w) fpUnit : ℚ) - fpMag w / fpUnit| := by
    rw [fpIntegral_nearest, fpRat_eq_div_unit, fpScaled_eq_signFactor_mul, ← fpMag_eq, mul_div_assoc, ← mul_sub, abs_mul,
      abs_signFactor, one_mul, abs_sub_comm]
  rw [hdist]
  refine ⟨hle, fun h => ?_⟩
  have hk := heven h
  simp only [fpIntegral]
  split <;> omega

/-- Every direction gives an integer within less than one. -/
theorem abs_fpIntegral_sub_lt (dir : RoundDirection) (w : Word) : |(fpIntegral dir w : ℚ) - fpRat w| < 1 := by
  have hfloor := Int.floor_le (fpRat w)
  have hfloor' := Int.lt_floor_add_one (fpRat w)
  have hceil := Int.le_ceil (fpRat w)
  have hceil' := Int.ceil_lt_add_one (fpRat w)
  cases dir with
  | minus => rw [fpIntegral_minus, abs_lt]; constructor <;> linarith
  | plus => rw [fpIntegral_plus, abs_lt]; constructor <;> linarith
  | zero => rw [fpIntegral_zero, towardZero, abs_lt]; split <;> constructor <;> linarith
  | nearest => rw [abs_sub_comm]; exact (fpIntegral_nearest_spec w).1.trans_lt (by norm_num)

/-! The rounded word. -/

theorem fpRat_neg_iff {w : Word} (h : isZero w = false) : fpRat w < 0 ↔ fpSign w = true := by
  have hne : fpMag w ≠ 0 := fun h0 => by simp [(fpMag_eq_zero_iff w).1 h0] at h
  rw [fpRat, div_lt_iff₀ (by positivity), zero_mul, Int.cast_lt_zero, fpScaled]
  cases fpSign w with
  | false => simp
  | true => simpa [Nat.pos_iff_ne_zero] using hne

/-- A nonzero integer within less than one of a word has the sign of the word. -/
theorem neg_iff_of_near {i : Int} {q : ℚ} (hi : |(i : ℚ) - q| < 1) (hne : i ≠ 0) : i < 0 ↔ q < 0 := by
  rw [abs_lt] at hi
  obtain ⟨hlow, hup⟩ := hi
  constructor
  · intro h
    have : (i : ℚ) ≤ -1 := by exact_mod_cast (show i ≤ -1 by omega)
    linarith
  · intro h
    by_contra hpos
    have : (1 : ℚ) ≤ i := by exact_mod_cast (show 1 ≤ i by omega)
    linarith

/-- The rounding of a word to an integral value, by any rule that the integer of the direction meets. -/
theorem integralResult_fpRoundIntegral {s : State} {op : FpOp} {dir : RoundDirection} {rule : ℚ → Int → Prop}
    (hrule : ∀ w, rule (fpRat w) (fpIntegral dir w)) (w : Word) :
    IntegralResult s rule w (fpRoundIntegral (s.nanWord op [w]) dir w) := by
  unfold IntegralResult fpRoundIntegral
  by_cases hnan : isNaN w = true
  · rw [if_pos hnan, if_pos hnan]
    exact quietNaN_nanWord s op [w]
  rw [if_neg hnan, if_neg hnan]
  by_cases hspecial : isInf w = true ∨ isZero w = true
  · rw [if_pos hspecial, if_pos (by simpa using hspecial)]
  rw [if_neg hspecial, if_neg (by simpa using hspecial)]
  obtain ⟨hinf, hzero⟩ : isInf w = false ∧ isZero w = false := by simpa using hspecial
  have hfin : isFinite w = true := isFinite_of_not_special (by simpa using hnan) hinf
  have hnear := abs_fpIntegral_sub_lt dir w
  split
  case isTrue h0 =>
    refine ⟨by rw [isFinite_iff, absBits_zeroOf]; decide, fpSign_zeroOf _, 0, ?_, h0 ▸ hrule w⟩
    have hscaled : fpScaled (zeroOf (fpSign w)) = 0 := (fpScaled_eq_zero_iff _).2 (by rw [isZero_iff, absBits_zeroOf])
    rw [fpRat, hscaled]
    norm_num
  case isFalse hne =>
    obtain ⟨v, hv, hrat⟩ := exists_finite_of_near hfin hnear
    have hquot : ((fpIntegral dir w * (fpUnit : Int) : Int) : ℚ) / (1 : Nat) / 2 ^ 149 = fpIntegral dir w := by
      unfold fpUnit
      push_cast
      field_simp
      norm_num
    have hunit : (0 : Int) < fpUnit := by unfold fpUnit; positivity
    have hsign : fpIntegral dir w * (fpUnit : Int) < 0 ↔ fpIntegral dir w < 0 :=
      ⟨fun h => not_le.1 fun hn => absurd h (not_lt.2 (mul_nonneg hn hunit.le)), fun h => mul_neg_of_neg_of_pos h hunit⟩
    obtain ⟨hfinite, hexact⟩ := roundNE_exact (d := 1) (mul_ne_zero hne hunit.ne') (by decide) hv (hrat.trans hquot.symm)
    refine ⟨hfinite, ?_, _, hexact.trans hquot, hrule w⟩
    rw [fpSign_roundNE, Bool.eq_iff_iff, decide_eq_true_iff, ← fpRat_neg_iff hzero, ← neg_iff_of_near hnear hne, hsign]

/-- Settles O53: each direction is the floor, the nearest integer, the ceiling or the truncation of the exact value. -/
theorem floatRoundToIntegral : Obligations.float_round_to_integral := by
  rintro s vd vb x y hvec rfl rfl
  have writes (f : Nat → Word) := writesElements_writeVr (.inr (.inr rfl)) hvec vd f
  refine ⟨_, _, _, _, writes _, writes _, writes _, writes _, fun k _ => ?_⟩
  simp only [flushedWord_eq_njWord]
  exact ⟨integralResult_fpRoundIntegral fpIntegral_minus _, integralResult_fpRoundIntegral fpIntegral_nearest_spec _,
    integralResult_fpRoundIntegral fpIntegral_plus _, integralResult_fpRoundIntegral fpIntegral_zero _⟩

end Sys2Proof.Proofs
end

section
/-! PROOFS. The reciprocal estimates (49_float.md R344, R348, R349): the free word is used only where the page's bound,
stated by the model in whole numbers, holds of it, and the model's own word is a rounded quotient, whose relative error
is at most 2^-24. -/

namespace Sys2Proof.Proofs
open Sys2Proof Sys2Proof.Machine

/-! The end of an estimate. -/

/-- An estimate writes the elements that it draws from the free values. -/
theorem drawsElements_writeVrDrawn {w : Nat} (hw : w = 8 ∨ w = 16 ∨ w = 32) {s : State} (h : s.vecAvailable = true)
    (vd : VReg) (f : Nat → BitVec w) : DrawsElements w vd s (writeVrDrawn s vd (vecOf w f)) f := by
  refine ⟨_, writeVrDrawn_available h vd _, fun k hk => ?_, rfl, rfl, rfl, registerFrame_setVr_draw s vd _⟩
  have hvr : (s.setVr vd (vecOf w f)).draw.advance.getVr vd = vecOf w f := State.getVr_setVr_same s vd _
  rw [hvr, elem_vecOf w f k hw hk]

/-- A property of every allowed word and of the model's own word holds of the chosen word. -/
theorem chosenEstimate_prop {P : Word → Prop} {allowed : Word → Bool} {made : Word} (free : Word)
    (hallowed : ∀ r, allowed r = true → P r) (hmade : P made) : P (chosenEstimate allowed free made) := by
  rcases chosenEstimate_spec allowed free made with h | h
  · rwa [h]
  · exact hallowed _ h

/-! The relative error of rounding. -/

/-- In the range of normalized numbers, half of the last place is at most 2^-24 of the value. -/
theorem abs_roundNE_sub_le {z : Int} {d : Nat} {q : ℚ} (hd : 0 < d) (hq : q = z / d / 2 ^ 149)
    (hlow : 1 / 2 ^ 126 ≤ |q|) (hup : |q| < 2 ^ 128 - 2 ^ 103) : |fpRat (roundNE z d) - q| ≤ |q| / 2 ^ 24 := by
  have hd' : (0 : ℚ) < d := by exact_mod_cast hd
  subst hq
  have hhalf : (2 : ℚ) ^ fpShift (z.natAbs / d) / 2 ≤ z.natAbs / d / 2 ^ 24 := by
    rw [abs_quotient, div_le_div_iff₀ (by positivity) (by positivity)] at hlow
    rcases (fpShift_bounds z.natAbs hd).1 with h0 | hnormal
    · rw [h0, pow_zero]
      linarith
    · have hnormal' : (2 ^ 23 * (d * 2 ^ fpShift (z.natAbs / d)) : ℚ) ≤ z.natAbs := by exact_mod_cast hnormal
      rw [div_div, div_le_div_iff₀ (by norm_num) (by positivity)]
      linarith
  have herr := (abs_roundBits_sub_le z.natAbs hd).1.trans hhalf
  rw [abs_roundNE_sub hd hup, abs_quotient, div_right_comm _ (2 ^ 149 : ℚ)]
  exact div_le_div_of_nonneg_right herr (by positivity)

theorem fpRat_eq_zero_iff (w : Word) : fpRat w = 0 ↔ isZero w = true := by
  rw [fpRat, div_eq_zero_iff, or_iff_left (by positivity), Int.cast_eq_zero, fpScaled_eq_zero_iff]

/-! The reciprocal. -/

section
variable {x : Word} (hzero : isZero x = false)
include hzero

theorem fpRat_ne_zero : fpRat x ≠ 0 := fun h => by simp [(fpRat_eq_zero_iff x).1 h] at hzero

theorem fpMag_pos : 0 < fpMag x :=
  Nat.pos_of_ne_zero fun h => by simp [(fpMag_eq_zero_iff x).1 h] at hzero

theorem abs_inv_fpRat : |1 / fpRat x| = 2 ^ 149 / fpMag x := by
  have hmag : (0 : ℚ) < fpMag x := by exact_mod_cast fpMag_pos hzero
  rw [fpRat, fpScaled_eq_signFactor_mul, ← fpMag_eq, abs_div, abs_one, abs_div, abs_mul, abs_signFactor, one_mul,
    Nat.abs_cast, abs_of_pos (show (0 : ℚ) < 2 ^ 149 by positivity), one_div_div]

/-- The model's range is the range of normalized reciprocals. -/
theorem recipInRange_iff : recipInRange x = true ↔ 1 / 2 ^ 126 ≤ |1 / fpRat x| ∧ |1 / fpRat x| < 2 ^ 128 := by
  have hmag : (0 : ℚ) < fpMag x := by exact_mod_cast fpMag_pos hzero
  have hlow : (1 / 2 ^ 126 : ℚ) ≤ 2 ^ 149 / fpMag x ↔ fpMag x ≤ 2 ^ 23 * 2 ^ 252 := by
    rw [div_le_div_iff₀ (by positivity) hmag, ← Nat.cast_le (α := ℚ)]
    push_cast
    constructor <;> intro h <;> linarith
  have hup : (2 ^ 149 / fpMag x : ℚ) < 2 ^ 128 ↔ 2 ^ 21 < fpMag x := by
    rw [div_lt_iff₀ hmag, ← Nat.cast_lt (α := ℚ)]
    push_cast
    constructor <;> intro h <;> linarith
  rw [abs_inv_fpRat hzero, hlow, hup, recipInRange, Bool.and_eq_true, decide_eq_true_iff, decide_eq_true_iff, and_comm,
    ← pow_add]

/-- The bound of R348 is a bound on the product with the operand. -/
theorem relative_error_inv (r : ℚ) : |r - 1 / fpRat x| / |1 / fpRat x| = |r * fpRat x - 1| := by
  have hx := fpRat_ne_zero hzero
  rw [← abs_div]
  congr 1
  field_simp

end

/-- What R348 asks of an estimate of the reciprocal of a finite word other than zero (D23 outside the range). -/
def RecipBound (x r : Word) : Prop :=
  isNaN r = false ∧ fpSign r = fpSign x ∧
    (1 / 2 ^ 126 ≤ |1 / fpRat x| → |1 / fpRat x| < 2 ^ 128 →
      isFinite r = true ∧ isZero r = false ∧ |fpRat r - 1 / fpRat x| / |1 / fpRat x| ≤ 1 / 4096)

theorem recipBound_of_allowed {x r : Word} (hzero : isZero x = false) (h : allowedRecip x r = true) :
    RecipBound x r := by
  simp only [allowedRecip, Bool.and_eq_true, Bool.or_eq_true, Bool.not_eq_true', beq_iff_eq, decide_eq_true_iff] at h
  obtain ⟨⟨hnan, hsign⟩, hrange⟩ := h
  refine ⟨hnan, hsign, fun hlow hup => ?_⟩
  have hin := (recipInRange_iff hzero).2 ⟨hlow, hup⟩
  obtain ⟨⟨hfin, hr0⟩, hbound⟩ := hrange.resolve_left (by simp [hin])
  refine ⟨hfin, hr0, ?_⟩
  have hsq : (2 : ℚ) ^ 298 = 2 ^ 149 * 2 ^ 149 := pow_add 2 149 149
  have hprod : fpRat r * fpRat x - 1 = ((fpScaled r * fpScaled x - 2 ^ 298 : Int) : ℚ) / 2 ^ 298 := by
    rw [Int.cast_sub, Int.cast_mul, Int.cast_pow, Int.cast_ofNat, sub_div, div_self (by positivity), hsq, fpRat, fpRat,
      div_mul_div_comm]
  have hbound' : (4096 * ((fpScaled r * fpScaled x - 2 ^ 298).natAbs : ℚ)) ≤ 2 ^ 298 := by exact_mod_cast hbound
  rw [Nat.cast_natAbs, Int.cast_abs] at hbound'
  rw [relative_error_inv hzero, hprod, abs_div, abs_of_pos (show (0 : ℚ) < 2 ^ 298 by positivity),
    div_le_div_iff₀ (by positivity) (by norm_num), one_mul, mul_comm]
  exact hbound'

theorem recipBound_madeRecip {x : Word} (hzero : isZero x = false) : RecipBound x (madeRecip x) := by
  have hmag := fpMag_pos hzero
  have hquot : 1 / fpRat x = ((if fpSign x then -(2 ^ 298 : Int) else 2 ^ 298 : Int) : ℚ) / fpMag x / 2 ^ 149 := by
    have hsq : (2 : ℚ) ^ 298 = 2 ^ 149 * 2 ^ 149 := pow_add 2 149 149
    have hmag' : (fpMag x : ℚ) ≠ 0 := by exact_mod_cast hmag.ne'
    rw [fpRat, fpScaled_eq_signFactor_mul, ← fpMag_eq, signFactor]
    cases fpSign x with
    | false => simp only [Bool.false_eq_true, if_false, Int.cast_pow, Int.cast_ofNat, hsq]; field_simp
    | true => simp only [if_true, Int.cast_neg, Int.cast_pow, Int.cast_ofNat, hsq]; field_simp
  have hpow : (0 : Int) < 2 ^ 298 := by positivity
  have hne : (if fpSign x then -(2 ^ 298 : Int) else 2 ^ 298) ≠ 0 := by
    split
    · exact neg_ne_zero.2 hpow.ne'
    · exact hpow.ne'
  refine ⟨isNaN_roundNE _ _, ?_, fun hlow hup => ?_⟩
  · rw [madeRecip, fpSign_roundNE]
    cases fpSign x with
    | false => exact decide_eq_false (not_lt.2 hpow.le)
    | true => exact decide_eq_true (neg_neg_of_pos hpow)
  · have hbelow : |1 / fpRat x| < 2 ^ 128 - 2 ^ 103 := by
      have hin := (recipInRange_iff hzero).2 ⟨hlow, hup⟩
      have hgt : 2 ^ 21 + 1 ≤ fpMag x := by
        simp only [recipInRange, Bool.and_eq_true, decide_eq_true_iff] at hin
        exact hin.1
      have hgt' : (2 ^ 21 + 1 : ℚ) ≤ fpMag x := by exact_mod_cast hgt
      rw [abs_inv_fpRat hzero, div_lt_iff₀ (by linarith)]
      linarith
    have herr := abs_roundNE_sub_le hmag hquot hlow hbelow
    have hpos : 0 < |1 / fpRat x| := lt_of_lt_of_le (by positivity) hlow
    obtain ⟨-, -, -, hnearest⟩ := roundingToNearestEven (if fpSign x then -(2 ^ 298 : Int) else 2 ^ 298) (fpMag x)
      hne hmag
    refine ⟨(hnearest (hquot ▸ hbelow)).1, ?_, ?_⟩
    · rw [← Bool.not_eq_true, ← fpRat_eq_zero_iff]
      intro h0
      rw [show fpRat (roundNE _ _) = 0 from h0, zero_sub, abs_neg] at herr
      linarith
    · rw [div_le_iff₀ hpos]
      exact herr.trans (by linarith)

/-- Settles O54: outside the special values the chosen word is within the bound of R348, and the flush keeps the special
values. -/
theorem reciprocalEstimate : Obligations.reciprocal_estimate := by
  intro s vd vb hvec
  refine ⟨_, drawsElements_writeVrDrawn (.inr (.inr rfl)) hvec vd _, fun k x _ hx => ?_⟩
  simp only [fpEstimate, flushedWord_eq_njWord, flushNJ_eq_njWord, ← hx]
  refine ⟨fun hnan => ?_, ?_, ?_, ?_, ?_, fun hfin hzero => ?_⟩
  · rw [fpRecip, if_pos hnan]
    exact quietNaN_njWord (quietNaN_nanWord s _ _)
  · rintro rfl; exact njWord_zeroOf s true
  · rintro rfl; exact njWord_infOf s true
  · rintro rfl; exact njWord_infOf s false
  · rintro rfl; exact njWord_zeroOf s false
  · rw [isFinite_iff] at hfin
    have hnan : ¬isNaN x = true := by rw [isNaN_iff]; omega
    have hinf : ¬isInf x = true := by rw [isInf_iff]; omega
    refine ⟨_, rfl, ?_⟩
    rw [fpRecip, if_neg hnan, if_neg hinf, if_neg (by simp [hzero])]
    exact chosenEstimate_prop (P := RecipBound x) _ (fun r => recipBound_of_allowed hzero) (recipBound_madeRecip hzero)

end Sys2Proof.Proofs
end

section
/-! PROOFS. The estimate of the reciprocal square root (49_float.md R349): the relative error is the distance of
`r * √x` from 1, and the square of that product is a quotient of whole numbers. -/

namespace Sys2Proof.Proofs
open Sys2Proof Sys2Proof.Machine

/-- The exact value of a word of sign 0. -/
theorem fpRat_of_fpSign_eq_false {w : Word} (h : fpSign w = false) : fpRat w = fpMag w / 2 ^ 149 := by
  rw [fpRat, fpScaled, h, if_neg (by decide), Int.cast_natCast]

theorem fpRat_pos {w : Word} (hsign : fpSign w = false) (hzero : isZero w = false) : 0 < fpRat w := by
  have hmag : (0 : ℚ) < fpMag w := by exact_mod_cast fpMag_pos hzero
  rw [fpRat_of_fpSign_eq_false hsign]
  positivity

/-- What R349 asks of an estimate of the reciprocal square root of a finite positive word. -/
def RsqrtBound (x r : Word) : Prop :=
  isFinite r = true ∧ 0 < fpRat r ∧ |(fpRat r : ℝ) - 1 / Real.sqrt (fpRat x)| / (1 / Real.sqrt (fpRat x)) ≤ 1 / 4096

theorem relative_error_inv_sqrt (r : ℝ) {v : ℝ} (hv : 0 < v) : |r - 1 / v| / (1 / v) = |r * v - 1| := by
  rw [← abs_of_pos (show 0 < 1 / v by positivity), ← abs_div, abs_of_pos (show 0 < 1 / v by positivity)]
  congr 1
  field_simp

section
variable {x : Word} (hsign : fpSign x = false) (hzero : isZero x = false)
include hsign hzero

theorem sqrt_fpRat_pos : 0 < Real.sqrt (fpRat x) := Real.sqrt_pos.2 (by exact_mod_cast fpRat_pos hsign hzero)

/-- The square of the root, in units of 2^-149. -/
theorem sq_sqrt_fpRat : Real.sqrt (fpRat x) ^ 2 * 2 ^ 149 = fpMag x := by
  have hpos : (0 : ℝ) < fpRat x := by exact_mod_cast fpRat_pos hsign hzero
  rw [Real.sq_sqrt hpos.le, fpRat_of_fpSign_eq_false hsign]
  push_cast
  field_simp

theorem rsqrtBound_of_allowed {r : Word} (h : allowedRsqrt x r = true) : RsqrtBound x r := by
  simp only [allowedRsqrt, Bool.and_eq_true, Bool.not_eq_true', decide_eq_true_iff] at h
  obtain ⟨⟨⟨hfin, hrsign⟩, hlow⟩, hup⟩ := h
  have hrzero : isZero r = false := by
    refine Bool.eq_false_iff.2 fun hr => absurd hlow (not_le.2 ?_)
    rw [(fpMag_eq_zero_iff r).2 hr, zero_pow two_ne_zero, zero_mul, mul_zero]
    positivity
  have hr : (0 : ℝ) < fpRat r := by exact_mod_cast fpRat_pos hrsign hrzero
  have hv := sqrt_fpRat_pos hsign hzero
  have hsq : ((fpRat r : ℝ) * Real.sqrt (fpRat x)) ^ 2 * 2 ^ 447 = (fpMag r ^ 2 * fpMag x : Nat) := by
    have hsplit : (2 : ℝ) ^ 447 = 2 ^ 149 * 2 ^ 149 * 2 ^ 149 := by rw [← pow_add, ← pow_add]
    rw [Nat.cast_mul, ← sq_sqrt_fpRat hsign hzero, hsplit, fpRat_of_fpSign_eq_false hrsign]
    push_cast
    field_simp
  have hlow' : (4095 ^ 2 * 2 ^ 447 : ℝ) ≤ 4096 ^ 2 * (fpMag r ^ 2 * fpMag x : Nat) := by exact_mod_cast hlow
  have hup' : (4096 ^ 2 * (fpMag r ^ 2 * fpMag x : Nat) : ℝ) ≤ 4097 ^ 2 * 2 ^ 447 := by exact_mod_cast hup
  refine ⟨hfin, fpRat_pos hrsign hrzero, ?_⟩
  rw [relative_error_inv_sqrt _ hv]
  rw [← hsq] at hlow' hup'
  have hp : 0 < (fpRat r : ℝ) * Real.sqrt (fpRat x) := mul_pos hr hv
  generalize (fpRat r : ℝ) * Real.sqrt (fpRat x) = p at *
  have hpow : (0 : ℝ) < 2 ^ 447 := by positivity
  have hplow : 4095 ≤ 4096 * p := by
    refine (pow_le_pow_iff_left₀ (by norm_num) (by positivity) two_ne_zero).1 ?_
    exact le_of_mul_le_mul_right (by rwa [mul_pow, mul_assoc]) hpow
  have hpup : 4096 * p ≤ 4097 := by
    refine (pow_le_pow_iff_left₀ (by positivity) (by norm_num) two_ne_zero).1 ?_
    exact le_of_mul_le_mul_right (by rwa [mul_pow, mul_assoc]) hpow
  rw [abs_le]
  constructor <;> linarith

/-- The integer root that the model rounds stands just below the exact one. -/
theorem natSqrt_mul_sqrt_bounds :
    Nat.sqrt (2 ^ 447 / fpMag x) * Real.sqrt (fpRat x) ≤ 2 ^ 149 ∧
      2 ^ 149 < (Nat.sqrt (2 ^ 447 / fpMag x) + 1) * Real.sqrt (fpRat x) := by
  have hmag := fpMag_pos hzero
  have hv := sqrt_fpRat_pos hsign hzero
  have hlow := (Nat.le_div_iff_mul_le hmag).1 (Nat.sqrt_le' (2 ^ 447 / fpMag x))
  have hup := (Nat.div_lt_iff_lt_mul hmag).1 (Nat.lt_succ_sqrt' (2 ^ 447 / fpMag x))
  generalize Nat.sqrt (2 ^ 447 / fpMag x) = S at *
  have hlow' : (S ^ 2 * fpMag x : ℝ) ≤ 2 ^ 447 := by exact_mod_cast hlow
  have hup' : (2 ^ 447 : ℝ) < (S + 1) ^ 2 * fpMag x := by exact_mod_cast hup
  have hsplit : (2 : ℝ) ^ 447 = (2 ^ 149) ^ 2 * 2 ^ 149 := by rw [← pow_mul, ← pow_add]
  rw [← sq_sqrt_fpRat hsign hzero, hsplit, ← mul_assoc, ← mul_pow] at hlow' hup'
  exact ⟨(pow_le_pow_iff_left₀ (by positivity) (by positivity) two_ne_zero).1 (le_of_mul_le_mul_right hlow' (by positivity)),
    (pow_lt_pow_iff_left₀ (by positivity) (by positivity) two_ne_zero).1 (lt_of_mul_lt_mul_right hup' (by positivity))⟩

theorem rsqrtBound_madeRsqrt (hfin : isFinite x = true) : RsqrtBound x (madeRsqrt x) := by
  have hv := sqrt_fpRat_pos hsign hzero
  have hvsmall : Real.sqrt (fpRat x) < 2 ^ 64 := by
    have hlt : (fpMag x : ℝ) < ((2 ^ 25 - 1) * 2 ^ 252 : Nat) := by exact_mod_cast fpMag_lt_of_finite hfin
    rw [← sq_sqrt_fpRat hsign hzero] at hlt
    refine (pow_lt_pow_iff_left₀ hv.le (by positivity) two_ne_zero).1 ?_
    exact lt_of_mul_lt_mul_right (hlt.trans (by norm_num)) (show (0 : ℝ) ≤ 2 ^ 149 by positivity)
  have hSup : Nat.sqrt (2 ^ 447 / fpMag x) < 2 ^ 224 := by
    have hpow {i j : Nat} (h : i < j * 2) : 2 ^ i < (2 ^ j) ^ 2 := by
      rw [← pow_mul]
      exact Nat.pow_lt_pow_right (by decide) h
    exact Nat.sqrt_lt'.2 ((Nat.div_le_self _ _).trans_lt (hpow (i := 447) (by decide)))
  obtain ⟨hle, hgt⟩ := natSqrt_mul_sqrt_bounds hsign hzero
  unfold madeRsqrt RsqrtBound
  rw [relative_error_inv_sqrt _ hv]
  generalize Nat.sqrt (2 ^ 447 / fpMag x) = S at *
  generalize Real.sqrt (fpRat x) = v at *
  have hSlow : 2 ^ 84 ≤ S := by
    by_contra h
    have hS : (S + 1 : ℝ) ≤ 2 ^ 84 := by exact_mod_cast (show S + 1 ≤ 2 ^ 84 by omega)
    have : (S + 1) * v ≤ 2 ^ 84 * 2 ^ 64 := mul_le_mul hS hvsmall.le hv.le (by positivity)
    linarith
  have hSlow' : (2 ^ 84 : ℚ) ≤ S := by exact_mod_cast hSlow
  have hSup' : (S : ℚ) < 2 ^ 224 := by exact_mod_cast hSup
  have hquot : (S : ℚ) / 2 ^ 149 = ((S : Int) : ℚ) / (1 : Nat) / 2 ^ 149 := by norm_num
  have hpos : 0 < (S : ℚ) / 2 ^ 149 := by positivity
  have hlow : 1 / 2 ^ 126 ≤ |(S : ℚ) / 2 ^ 149| := by
    rw [abs_of_pos hpos, div_le_div_iff₀ (by positivity) (by positivity)]
    linarith
  have hup : |(S : ℚ) / 2 ^ 149| < 2 ^ 128 - 2 ^ 103 := by
    rw [abs_of_pos hpos, div_lt_iff₀ (by positivity)]
    linarith
  have herr := abs_roundNE_sub_le Nat.one_pos hquot hlow hup
  obtain ⟨-, -, -, hnearest⟩ := roundingToNearestEven (S : Int) 1 (by omega) Nat.one_pos
  have hfinite := (hnearest (hquot ▸ hup)).1
  rw [abs_of_pos hpos] at herr
  refine ⟨hfinite, ?_, ?_⟩
  · rw [abs_le] at herr
    linarith [herr.1]
  · have herr' := (Rat.cast_le (K := ℝ)).2 herr
    push_cast at herr'
    generalize (fpRat (roundNE (S : Int) 1) : ℝ) = r at *
    have hprod : |r * v - S / 2 ^ 149 * v| ≤ (S : ℝ) / 2 ^ 149 / 2 ^ 24 * v := by
      rw [← sub_mul, abs_mul, abs_of_pos hv]
      exact mul_le_mul_of_nonneg_right herr' hv.le
    rw [abs_le] at hprod ⊢
    constructor <;> linarith [hprod.1, hprod.2]

end

/-- Settles O55: outside the special values the chosen word is within the bound of R349. -/
theorem reciprocalSquareRootEstimate : Obligations.reciprocal_square_root_estimate := by
  intro s vd vb hvec
  refine ⟨_, drawsElements_writeVrDrawn (.inr (.inr rfl)) hvec vd _, fun k x _ hx => ?_⟩
  simp only [fpEstimate, flushedWord_eq_njWord, ← hx]
  refine ⟨fun hnan => ?_, ?_, ?_, ?_, fun hnan hzero hsign => ?_, fun hfin hzero hsign => ?_⟩
  · rw [fpRsqrt, if_pos hnan]
    exact quietNaN_nanWord s _ _
  · rintro rfl; rfl
  · rintro rfl; rfl
  · rintro rfl; rfl
  · rw [fpRsqrt, if_neg (by simp [hnan]), if_neg (by simp [hzero]), if_pos hsign]
    exact quietNaN_of_no_operand (quietNaN_nanWord s _ _) (by simpa using hnan)
  · rw [isFinite_iff] at hfin
    have hnan : ¬isNaN x = true := by rw [isNaN_iff]; omega
    have hinf : ¬isInf x = true := by rw [isInf_iff]; omega
    rw [fpRsqrt, if_neg hnan, if_neg (by simp [hzero]), if_neg (by simp [hsign]), if_neg hinf]
    exact chosenEstimate_prop (P := RsqrtBound x) _ (fun r => rsqrtBound_of_allowed hsign hzero)
      (rsqrtBound_madeRsqrt hsign hzero ((isFinite_iff x).2 hfin))

end Sys2Proof.Proofs
end

section
/-! PROOFS. The estimate of the base-2 logarithm (49_float.md R347): the model compares powers of two in whole numbers,
and the logarithm of such a comparison is the bound of the page. -/

namespace Sys2Proof.Proofs
open Sys2Proof Sys2Proof.Machine

/-! Logarithms of whole numbers. -/

theorem natCast_le_logb_iff (k : Nat) {n : Nat} (hn : 0 < n) : (k : ℝ) ≤ Real.logb 2 n ↔ 2 ^ k ≤ n := by
  rw [Real.le_logb_iff_rpow_le (by norm_num) (by exact_mod_cast hn), Real.rpow_natCast]
  exact_mod_cast Iff.rfl

theorem logb_le_natCast_iff (k : Nat) {n : Nat} (hn : 0 < n) : Real.logb 2 n ≤ k ↔ n ≤ 2 ^ k := by
  rw [Real.logb_le_iff_le_rpow (by norm_num) (by exact_mod_cast hn), Real.rpow_natCast]
  exact_mod_cast Iff.rfl

theorem le_logb_of_powLe {e : Int} {n : Nat} (hn : 0 < n) (h : powLe e n = true) : (e : ℝ) ≤ Real.logb 2 n := by
  simp only [powLe, Bool.or_eq_true, decide_eq_true_iff] at h
  have hnonneg : 0 ≤ Real.logb 2 n := Real.logb_nonneg (by norm_num) (by exact_mod_cast hn)
  rcases h with hneg | hle
  · exact le_trans (by exact_mod_cast hneg.le) hnonneg
  · refine le_trans ?_ ((natCast_le_logb_iff _ hn).2 hle)
    exact_mod_cast Int.self_le_toNat e

theorem logb_le_of_lePow {e : Int} {n : Nat} (hn : 0 < n) (h : lePow n e = true) : Real.logb 2 n ≤ e := by
  simp only [lePow, Bool.and_eq_true, decide_eq_true_iff] at h
  obtain ⟨hnonneg, hle⟩ := h
  refine ((logb_le_natCast_iff _ hn).2 hle).trans ?_
  exact_mod_cast (Int.toNat_of_nonneg hnonneg).le

/-- The integer part of the logarithm of a power. -/
theorem log2_pow_bounds {m : Nat} (hm : 0 < m) (p : Nat) :
    (Nat.log2 (m ^ p) : ℝ) ≤ p * Real.logb 2 m ∧ p * Real.logb 2 m < Nat.log2 (m ^ p) + 1 := by
  have hpos : 0 < m ^ p := Nat.pow_pos hm
  rw [← Real.logb_pow, ← Nat.cast_pow]
  refine ⟨(natCast_le_logb_iff _ hpos).2 (Nat.log2_self_le hpos.ne'), ?_⟩
  rw [← not_le, ← Nat.cast_add_one, natCast_le_logb_iff _ hpos, not_le]
  exact Nat.lt_log2_self

theorem log2_pow_lt {m i p : Nat} (hm : 0 < m) (hp : p ≠ 0) (h : m < 2 ^ i) : Nat.log2 (m ^ p) < i * p := by
  rw [Nat.log2_lt (Nat.pow_pos hm).ne', pow_mul]
  exact Nat.pow_lt_pow_left h hp

/-! The words. -/

theorem fpUnit_pos : 0 < fpUnit := by unfold fpUnit; positivity

/-- The bounds of the estimates count in units of 2^-149. -/
theorem cast_fpUnit : (fpUnit : ℝ) = 2 ^ 149 := by
  rw [fpUnit, Nat.cast_pow, Nat.cast_ofNat]

theorem fpScaled_cast (w : Word) : (fpScaled w : ℝ) = fpRat w * fpUnit := by
  rw [fpRat_eq_div_unit, Rat.cast_div, Rat.cast_intCast, Rat.cast_natCast,
    div_mul_cancel₀ _ (by exact_mod_cast fpUnit_pos.ne')]

/-- What R347 asks of an estimate of the logarithm of a finite positive word. -/
def LogBound (x r : Word) : Prop :=
  isFinite r = true ∧ (1 / 8 < |fpRat x - 1| → |(fpRat r : ℝ) - Real.logb 2 (fpRat x)| ≤ 1 / 32)

theorem logAwayFromOne_iff (x : Word) : logAwayFromOne x = true ↔ 1 / 8 < |fpRat x - 1| := by
  have hunit : (0 : ℚ) < fpUnit := by exact_mod_cast fpUnit_pos
  have hdiff : fpRat x - 1 = ((fpScaled x - (fpUnit : Int) : Int) : ℚ) / fpUnit := by
    rw [fpRat_eq_div_unit, Int.cast_sub, sub_div, Int.cast_natCast, div_self hunit.ne']
  rw [hdiff, abs_div, abs_of_pos hunit, ← Int.cast_abs, ← Nat.cast_natAbs, div_lt_div_iff₀ (by norm_num) hunit, one_mul,
    mul_comm, logAwayFromOne, decide_eq_true_iff]
  exact_mod_cast Iff.rfl

section
variable {x : Word} (hsign : fpSign x = false) (hzero : isZero x = false)
include hsign hzero

theorem logb_fpRat : Real.logb 2 (fpRat x) = Real.logb 2 (fpMag x) - 149 := by
  have hmag : (fpMag x : ℝ) ≠ 0 := by exact_mod_cast (fpMag_pos hzero).ne'
  rw [fpRat_of_fpSign_eq_false hsign]
  push_cast
  rw [Real.logb_div hmag (by positivity), Real.logb_pow, Real.logb_self_eq_one (by norm_num), mul_one]
  norm_num

theorem logBound_of_allowed {r : Word} (h : allowedLog x r = true) : LogBound x r := by
  simp only [allowedLog, Bool.and_eq_true, Bool.or_eq_true, Bool.not_eq_true'] at h
  obtain ⟨hfin, hbounds⟩ := h
  refine ⟨hfin, fun haway => ?_⟩
  obtain ⟨⟨-, hlow⟩, hup⟩ := hbounds.resolve_left (by simp [(logAwayFromOne_iff x).2 haway])
  have hpos : 0 < fpMag x ^ fpUnit := Nat.pow_pos (fpMag_pos hzero)
  have hlow' := le_logb_of_powLe hpos hlow
  have hup' := logb_le_of_lePow hpos hup
  rw [Nat.cast_pow, Real.logb_pow] at hlow' hup'
  push_cast at hlow' hup'
  rw [fpScaled_cast, cast_fpUnit] at hlow' hup'
  rw [logb_fpRat hsign hzero, abs_le]
  constructor <;> linarith

theorem logBound_madeLog (hfin : isFinite x = true) : LogBound x (madeLog x) := by
  have hmag := fpMag_pos hzero
  have hlog : Nat.log2 (fpMag x ^ 16) < (25 + 252) * 16 := log2_pow_lt hmag (by decide)
    ((fpMag_lt_of_finite hfin).trans_le ((Nat.mul_le_mul_right _ (by decide)).trans_eq (pow_add 2 25 252).symm))
  obtain ⟨hlow, hup⟩ := log2_pow_bounds hmag 16
  unfold madeLog LogBound
  rw [logb_fpRat hsign hzero]
  generalize Nat.log2 (fpMag x ^ 16) = l at *
  obtain ⟨j, hj⟩ : ∃ j : Int, j = 2 * ((l : Int) - 149 * 16) + 1 := ⟨_, rfl⟩
  rw [← hj]
  have hne : j * (fpUnit : Int) ≠ 0 := mul_ne_zero (by omega) (by exact_mod_cast fpUnit_pos.ne')
  have hquot : ((j * (fpUnit : Int) : Int) : ℚ) / (32 : Nat) / 2 ^ 149 = j / 32 := by
    rw [Int.cast_mul, Int.cast_natCast, fpUnit, Nat.cast_pow, Nat.cast_ofNat, Nat.cast_ofNat, div_right_comm,
      mul_div_cancel_right₀ _ (by positivity)]
  obtain ⟨w, hw, hrat⟩ := exists_finite_of_intSignificand j (sh := 144) (by rw [abs_le]; omega) (by decide)
  have hshift : (j : ℚ) * 2 ^ 144 / 2 ^ 149 = j / 32 := by
    rw [mul_div_assoc, div_eq_mul_one_div (j : ℚ)]
    norm_num
  obtain ⟨hfinite, hexact⟩ := roundNE_exact (d := 32) hne (by decide) hw (hrat.trans (hshift.trans hquot.symm))
  refine ⟨hfinite, fun _ => ?_⟩
  rw [hexact.trans hquot, hj, abs_le]
  push_cast at hlow hup ⊢
  constructor <;> linarith

end

/-- Settles O57: outside the special values the chosen word is within the bound of R347, and the flush keeps the special
values. -/
theorem baseTwoLogarithmEstimate : Obligations.base_two_logarithm_estimate := by
  intro s vd vb hvec
  refine ⟨_, drawsElements_writeVrDrawn (.inr (.inr rfl)) hvec vd _, fun k x _ hx => ?_⟩
  simp only [fpEstimate, flushedWord_eq_njWord, flushNJ_eq_njWord, ← hx]
  refine ⟨fun hnan => ?_, fun hzero => ?_, ?_, fun hnan hzero hsign => ?_, fun hfin hzero hsign => ?_⟩
  · rw [fpLog, if_pos hnan]
    exact quietNaN_njWord (quietNaN_nanWord s _ _)
  · rw [eq_zeroOf_of_isZero hzero]
    cases fpSign x with
    | false => exact njWord_infOf s true
    | true => exact njWord_infOf s true
  · rintro rfl; exact njWord_infOf s false
  · rw [fpLog, if_neg (by simp [hnan]), if_neg (by simp [hzero]), if_pos hsign]
    exact quietNaN_njWord (quietNaN_of_no_operand (quietNaN_nanWord s _ _) (by simpa using hnan))
  · rw [isFinite_iff] at hfin
    have hnan : ¬isNaN x = true := by rw [isNaN_iff]; omega
    have hinf : ¬isInf x = true := by rw [isInf_iff]; omega
    refine ⟨_, rfl, ?_⟩
    rw [fpLog, if_neg hnan, if_neg (by simp [hzero]), if_neg (by simp [hsign]), if_neg hinf]
    exact chosenEstimate_prop (P := LogBound x) _ (fun r => logBound_of_allowed hsign hzero)
      (logBound_madeLog hsign hzero ((isFinite_iff x).2 hfin))

end Sys2Proof.Proofs
end

section
/-! PROOFS. The estimate of the power of two (49_float.md R346). The model's comparison of whole numbers is the bound of
the page raised to the power 2^149; its own word takes the operand to an eighth, whose error the eight constants
bound. -/

namespace Sys2Proof.Proofs
open Sys2Proof Sys2Proof.Machine

/-! Powers of two. -/

/-- A power with an integer exponent in units of 2^-149. -/
theorem two_pow_toNat {n : Int} (hn : -149 ≤ n) : (2 : ℚ) ^ (n + 149).toNat = 2 ^ n * 2 ^ 149 := by
  rw [← zpow_natCast, Int.toNat_of_nonneg (by omega), zpow_add₀ two_ne_zero]
  rfl

theorem two_pow_eq_rpow_pow {u e : Nat} {y : ℝ} (he : (e : ℝ) = y * u) : (2 : ℝ) ^ e = (2 ^ y) ^ u := by
  rw [← Real.rpow_natCast, he, Real.rpow_mul_natCast (by norm_num)]

/-- A root of a comparison with a power of two. -/
theorem pow_mul_two_pow_le_iff {u e : Nat} {y : ℝ} (hu : u ≠ 0) (he : (e : ℝ) = y * u) (a b : Nat) :
    a ^ u * 2 ^ e ≤ b ^ u ↔ a * (2 : ℝ) ^ y ≤ b := by
  rw [← pow_le_pow_iff_left₀ (show 0 ≤ a * (2 : ℝ) ^ y by positivity) (by positivity) hu, mul_pow, ← two_pow_eq_rpow_pow he]
  exact_mod_cast Iff.rfl

theorem pow_le_mul_two_pow_iff {u e : Nat} {y : ℝ} (hu : u ≠ 0) (he : (e : ℝ) = y * u) (a b : Nat) :
    b ^ u ≤ a ^ u * 2 ^ e ↔ b ≤ a * (2 : ℝ) ^ y := by
  rw [← pow_le_pow_iff_left₀ (by positivity) (show 0 ≤ a * (2 : ℝ) ^ y by positivity) hu, mul_pow, ← two_pow_eq_rpow_pow he]
  exact_mod_cast Iff.rfl

/-! Exact powers. -/

theorem fpRat_eq_intCast_iff (x : Word) (n : Int) : fpRat x = n ↔ fpScaled x = n * (fpUnit : Int) := by
  rw [fpRat_eq_div_unit, div_eq_iff (by exact_mod_cast fpUnit_pos.ne')]
  exact_mod_cast Iff.rfl

theorem isExactPower_iff (x : Word) :
    isExactPower x = true ↔ ∃ n : Int, fpRat x = n ∧ -149 ≤ n ∧ n ≤ 127 := by
  have hunit : (fpUnit : Int) ≠ 0 := by exact_mod_cast fpUnit_pos.ne'
  simp only [isExactPower, Bool.and_eq_true, beq_iff_eq, decide_eq_true_iff, fpRat_eq_intCast_iff]
  constructor
  · rintro ⟨⟨hmod, hlow⟩, hup⟩
    exact ⟨_, (Int.ediv_mul_cancel_of_emod_eq_zero hmod).symm, hlow, hup⟩
  · rintro ⟨n, hn, hlow, hup⟩
    rw [hn, Int.mul_ediv_cancel _ hunit]
    exact ⟨⟨Int.mul_emod_left _ _, hlow⟩, hup⟩

/-- The bits of the exact power: an exponent field alone, or one bit of the fraction. -/
theorem absBits_powerWord {n : Int} (hlow : -149 ≤ n) (hup : n ≤ 127) :
    ∃ sh k, (powerWord n).toNat = sh * 2 ^ 23 + k ∧ k ≤ 2 ^ 23 ∧ sh ≤ 253 ∧ (sh = 0 ∨ 2 ^ 23 ≤ k) ∧
      k * 2 ^ sh = 2 ^ (n + 149).toNat := by
  unfold powerWord
  split
  case isTrue hnormal =>
    obtain ⟨e, rfl⟩ : ∃ e : Nat, n = e - 126 := ⟨(n + 126).toNat, by omega⟩
    refine ⟨e, 2 ^ 23, ?_, le_rfl, by omega, .inr le_rfl, ?_⟩
    · rw [BitVec.toNat_shiftLeft, BitVec.toNat_ofNat, Nat.shiftLeft_eq]
      omega
    · rw [← pow_add]
      congr 1
      omega
  case isFalse hdenorm =>
    obtain ⟨e, rfl⟩ : ∃ e : Nat, n = e - 149 := ⟨(n + 149).toNat, by omega⟩
    have hpow : 2 ^ e ≤ 2 ^ 22 := Nat.pow_le_pow_right (by decide) (by omega)
    have he : ((e : Int) - 149 + 149).toNat = e := by omega
    rw [he]
    refine ⟨0, 2 ^ e, ?_, by omega, by omega, .inl rfl, by ring⟩
    rw [BitVec.natCast_eq_ofNat, BitVec.toNat_ofNat, Nat.shiftLeft_eq, one_mul,
      Nat.mod_eq_of_lt (hpow.trans_lt (by decide)), zero_mul, zero_add]

theorem powerWord_spec {n : Int} (hlow : -149 ≤ n) (hup : n ≤ 127) :
    isFinite (powerWord n) = true ∧ fpSign (powerWord n) = false ∧ fpRat (powerWord n) = 2 ^ n := by
  obtain ⟨sh, k, hbits, hk, hsh, hnormal, hvalue⟩ := absBits_powerWord hlow hup
  have habs : absBits (powerWord n) = sh * 2 ^ 23 + k := by rw [absBits, hbits]; omega
  have hsign : fpSign (powerWord n) = false := by
    rw [fpSign_eq_decide, hbits]
    exact decide_eq_false (by omega)
  refine ⟨(isFinite_iff _).2 (by omega), hsign, ?_⟩
  rw [fpRat_of_fpSign_eq_false hsign, fpMag_eq, habs, magOf_add (by omega) hnormal, hvalue, Nat.cast_pow, Nat.cast_ofNat,
    two_pow_toNat hlow, mul_div_cancel_right₀ _ (by positivity)]

/-! The estimate. -/

/-- What R346 asks of an estimate of `2^x` for a finite operand, the exact powers apart. -/
def PowerBound (x r : Word) : Prop :=
  isNaN r = false ∧ fpSign r = false ∧
    (1 / 2 ^ 126 ≤ (2 : ℝ) ^ (fpRat x : ℝ) → (2 : ℝ) ^ (fpRat x : ℝ) < 2 ^ 128 →
      isFinite r = true ∧ |(fpRat r : ℝ) - 2 ^ (fpRat x : ℝ)| / 2 ^ (fpRat x : ℝ) ≤ 1 / 16)

theorem le_fpRat_iff (n : Int) (x : Word) : n * (fpUnit : Int) ≤ fpScaled x ↔ (n : ℝ) ≤ fpRat x := by
  have hunit : (0 : ℝ) < fpUnit := by exact_mod_cast fpUnit_pos
  rw [← mul_le_mul_iff_left₀ hunit, ← fpScaled_cast]
  exact_mod_cast Iff.rfl

/-- The model's range is the range of normalized powers. -/
theorem powerInRange_iff (x : Word) : powerInRange x = true ↔
    1 / 2 ^ 126 ≤ (2 : ℝ) ^ (fpRat x : ℝ) ∧ (2 : ℝ) ^ (fpRat x : ℝ) < 2 ^ 128 := by
  have hlow : (1 / 2 ^ 126 : ℝ) = 2 ^ ((-126 : Int) : ℝ) := by
    rw [Real.rpow_intCast, zpow_neg, one_div]
    rfl
  have hup : (2 ^ 128 : ℝ) = 2 ^ ((128 : Int) : ℝ) := by
    rw [Real.rpow_intCast]
    rfl
  have hnot : (fpRat x : ℝ) < (128 : Int) ↔ fpScaled x < 128 * (fpUnit : Int) := by
    rw [← not_le, ← not_le, le_fpRat_iff]
  rw [hlow, hup, Real.rpow_le_rpow_left_iff (by norm_num), Real.rpow_lt_rpow_left_iff (by norm_num), hnot, ← le_fpRat_iff,
    powerInRange, Bool.and_eq_true, decide_eq_true_iff, decide_eq_true_iff]

/-- The bound of R346 with the division cleared. -/
theorem relative_error_le_iff {r y : ℝ} (hy : 0 < y) : |r - y| / y ≤ 1 / 16 ↔ 15 * y ≤ 16 * r ∧ 16 * r ≤ 17 * y := by
  rw [div_le_iff₀ hy, abs_le]
  constructor
  · rintro ⟨hlow, hup⟩
    constructor <;> linarith
  · rintro ⟨hlow, hup⟩
    constructor <;> linarith

theorem powerBound_of_allowed {x r : Word} (h : allowedPower x r = true) : PowerBound x r := by
  simp only [allowedPower, Bool.and_eq_true, Bool.or_eq_true, Bool.not_eq_true', decide_eq_true_iff] at h
  obtain ⟨⟨hnan, hsign⟩, hrange⟩ := h
  refine ⟨hnan, hsign, fun hlow hup => ?_⟩
  have hin := (powerInRange_iff x).2 ⟨hlow, hup⟩
  obtain ⟨⟨⟨hfin, -⟩, hge⟩, hle⟩ := hrange.resolve_left (by simp [hin])
  have hexp : (powerExponent x : ℝ) = ((fpRat x : ℝ) + 149) * fpUnit := by
    have hnonneg : 0 ≤ fpScaled x + 149 * (fpUnit : Int) := by
      simp only [powerInRange, Bool.and_eq_true, decide_eq_true_iff] at hin
      omega
    have hcast : (powerExponent x : Int) = fpScaled x + 149 * (fpUnit : Int) := Int.toNat_of_nonneg hnonneg
    rw [add_mul, ← fpScaled_cast]
    exact_mod_cast hcast
  rw [pow_mul_two_pow_le_iff fpUnit_pos.ne' hexp] at hge
  rw [pow_le_mul_two_pow_iff fpUnit_pos.ne' hexp] at hle
  refine ⟨hfin, (relative_error_le_iff (by positivity)).2 ?_⟩
  rw [fpRat_of_fpSign_eq_false hsign]
  rw [Real.rpow_add two_pos, Real.rpow_ofNat] at hge hle
  push_cast at hge hle ⊢
  constructor <;> linarith

/-- The eight constants are near the middle of their eighths: the lower end of the eighth exceeds 16/17 of them and the
upper end is below 16/15 of them, rounding included. -/
theorem powerSixteenth_bounds : ∀ j, j < 8 →
    (16 * powerSixteenth j * (2 ^ 24 + 1)) ^ 8 ≤ (17 * 2 ^ 48) ^ 8 * 2 ^ j ∧
    (15 * 2 ^ 48) ^ 8 * 2 ^ (j + 1) ≤ (16 * powerSixteenth j * 16777215) ^ 8 ∧
    2 ^ 24 ≤ powerSixteenth j ∧ powerSixteenth j + 1 < 2 ^ 25 := by decide

/-- A word near the constant of an eighth is near every power of two in that eighth. -/
theorem bounds_of_near_powerSixteenth {j : Nat} (hj : j < 8) {z r : ℝ} (hz : 0 < z) (hlow : 2 ^ j ≤ z ^ 8)
    (hup : z ^ 8 ≤ 2 ^ (j + 1)) (hr : |r - powerSixteenth j / 2 ^ 24| ≤ (powerSixteenth j : ℝ) / 2 ^ 24 / 2 ^ 24) :
    15 * z ≤ 16 * r ∧ 16 * r ≤ 17 * z := by
  obtain ⟨hpup, hplow, hp, -⟩ := powerSixteenth_bounds j hj
  generalize powerSixteenth j = p at *
  have hpup' : ((16 * p * (2 ^ 24 + 1)) ^ 8 : ℝ) ≤ (17 * 2 ^ 48) ^ 8 * 2 ^ j := by exact_mod_cast hpup
  have hplow' : ((15 * 2 ^ 48) ^ 8 * 2 ^ (j + 1) : ℝ) ≤ (16 * p * 16777215) ^ 8 := by exact_mod_cast hplow
  have hge : 15 * 2 ^ 48 * z ≤ 16 * p * 16777215 := by
    refine (pow_le_pow_iff_left₀ (by positivity) (by positivity) (by decide : 8 ≠ 0)).1 ?_
    rw [mul_pow]
    exact (mul_le_mul_of_nonneg_left hup (by positivity)).trans hplow'
  have hle : 16 * p * (2 ^ 24 + 1) ≤ 17 * 2 ^ 48 * z := by
    refine (pow_le_pow_iff_left₀ (by positivity) (by positivity) (by decide : 8 ≠ 0)).1 ?_
    rw [mul_pow _ z]
    exact hpup'.trans (mul_le_mul_of_nonneg_left hlow (by positivity))
  obtain ⟨hrlow, hrup⟩ := abs_le.1 hr
  constructor <;> linarith

/-- The constant of an eighth at a power of two, and the powers with an exponent in that eighth. -/
theorem bounds_of_near_eighth {j : Nat} (hj : j < 8) {n : Int} {v r : ℝ} (hle : 8 * n + j ≤ v * 8)
    (hlt : v * 8 < 8 * n + j + 1)
    (hr : |r - powerSixteenth j / 2 ^ 24 * 2 ^ n| ≤ (powerSixteenth j : ℝ) / 2 ^ 24 * 2 ^ n / 2 ^ 24) :
    15 * (2 : ℝ) ^ v ≤ 16 * r ∧ 16 * r ≤ 17 * (2 : ℝ) ^ v := by
  have hpow : (0 : ℝ) < 2 ^ n := by positivity
  have hsplit : (2 : ℝ) ^ v = 2 ^ (v - n) * 2 ^ n := by
    rw [← Real.rpow_intCast, ← Real.rpow_add (by norm_num), sub_add_cancel]
  have heighth : ((2 : ℝ) ^ (v - n)) ^ 8 = 2 ^ (v * 8 - 8 * n) := by
    rw [← Real.rpow_mul_natCast (by norm_num)]
    congr 1
    push_cast
    ring
  have hlow : 2 ^ j ≤ ((2 : ℝ) ^ (v - n)) ^ 8 := by
    rw [heighth, ← Real.rpow_natCast, Real.rpow_le_rpow_left_iff (by norm_num)]
    linarith
  have hup : ((2 : ℝ) ^ (v - n)) ^ 8 ≤ 2 ^ (j + 1) := by
    rw [heighth, ← Real.rpow_natCast, Real.rpow_le_rpow_left_iff (by norm_num)]
    push_cast
    linarith
  have hnear : |r / 2 ^ n - powerSixteenth j / 2 ^ 24| ≤ (powerSixteenth j : ℝ) / 2 ^ 24 / 2 ^ 24 := by
    rw [← mul_div_cancel_right₀ ((powerSixteenth j : ℝ) / 2 ^ 24) hpow.ne', ← sub_div, abs_div, abs_of_pos hpow,
      div_right_comm _ ((2 : ℝ) ^ n), div_le_div_iff_of_pos_right hpow]
    exact hr
  obtain ⟨hge, hle'⟩ := bounds_of_near_powerSixteenth hj (by positivity) hlow hup hnear
  rw [mul_div_assoc', le_div_iff₀ hpow] at hge
  rw [mul_div_assoc', div_le_iff₀ hpow] at hle'
  rw [hsplit]
  constructor <;> linarith

/-- The rounding of the constant at its power of two. -/
theorem roundNE_powerSixteenth {j : Nat} (hj : j < 8) {n : Int} (hlow : -126 ≤ n) (hup : n ≤ 127) :
    isFinite (roundNE ((powerSixteenth j * 2 ^ (n + 149).toNat : Nat) : Int) (2 ^ 24)) = true ∧
      |fpRat (roundNE ((powerSixteenth j * 2 ^ (n + 149).toNat : Nat) : Int) (2 ^ 24)) - powerSixteenth j / 2 ^ 24 * 2 ^ n| ≤
        (powerSixteenth j : ℚ) / 2 ^ 24 * 2 ^ n / 2 ^ 24 := by
  obtain ⟨-, -, hp, hp'⟩ := powerSixteenth_bounds j hj
  generalize powerSixteenth j = p at *
  have hple : (2 ^ 24 : ℚ) ≤ p := by exact_mod_cast hp
  have hplt : (p : ℚ) < 2 ^ 25 - 1 := by
    rw [lt_sub_iff_add_lt]
    exact_mod_cast hp'
  have hquot : (p : ℚ) / 2 ^ 24 * 2 ^ n = ((p * 2 ^ (n + 149).toNat : Nat) : Int) / (2 ^ 24 : Nat) / 2 ^ 149 := by
    rw [Int.cast_natCast, Nat.cast_mul, Nat.cast_pow, Nat.cast_pow, Nat.cast_ofNat, two_pow_toNat (by omega)]
    field_simp
  have hnlow : (2 ^ (-126 : Int) : ℚ) ≤ 2 ^ n := zpow_le_zpow_right₀ (by norm_num) hlow
  have hnup : (2 ^ n : ℚ) ≤ 2 ^ (127 : Int) := zpow_le_zpow_right₀ (by norm_num) hup
  have hpos : 0 < (p : ℚ) / 2 ^ 24 * 2 ^ n := by positivity
  have hqlow : 1 / 2 ^ 126 ≤ |(p : ℚ) / 2 ^ 24 * 2 ^ n| := by
    rw [abs_of_pos hpos]
    calc (1 / 2 ^ 126 : ℚ) = 1 * 2 ^ (-126 : Int) := by norm_num
      _ ≤ p / 2 ^ 24 * 2 ^ n := mul_le_mul (by linarith) hnlow (by positivity) (by positivity)
  have hqup : |(p : ℚ) / 2 ^ 24 * 2 ^ n| < 2 ^ 128 - 2 ^ 103 := by
    rw [abs_of_pos hpos]
    calc (p : ℚ) / 2 ^ 24 * 2 ^ n < (2 ^ 25 - 1) / 2 ^ 24 * 2 ^ (127 : Int) :=
          mul_lt_mul (by linarith) hnup (by positivity) (by norm_num)
      _ = 2 ^ 128 - 2 ^ 103 := by norm_num
  have herr := abs_roundNE_sub_le (by positivity) hquot hqlow hqup
  rw [abs_of_pos hpos] at herr
  obtain ⟨-, -, -, hnearest⟩ := roundingToNearestEven ((p * 2 ^ (n + 149).toNat : Nat) : Int) (2 ^ 24)
    (by positivity) (by positivity)
  exact ⟨(hnearest (hquot ▸ hqup)).1, herr⟩

/-- The eighth that the operand lies in. -/
theorem eighths_bounds (x : Word) : ((fpScaled x * 8 / (fpUnit : Int) : Int) : ℝ) ≤ fpRat x * 8 ∧
    fpRat x * 8 < ((fpScaled x * 8 / (fpUnit : Int) : Int) : ℝ) + 1 := by
  have hunit : (0 : Int) < fpUnit := by exact_mod_cast fpUnit_pos
  have hunit' : (0 : ℝ) < fpUnit := by exact_mod_cast fpUnit_pos
  have hle := Int.ediv_mul_le (fpScaled x * 8) hunit.ne'
  have hlt := Int.lt_ediv_add_one_mul_self (fpScaled x * 8) hunit
  generalize fpScaled x * 8 / (fpUnit : Int) = e at *
  have hscaled : fpRat x * 8 * (fpUnit : ℝ) = (fpScaled x * 8 : Int) := by
    push_cast
    rw [fpScaled_cast]
    ring
  constructor
  · rw [← mul_le_mul_iff_left₀ hunit', hscaled]
    exact_mod_cast hle
  · rw [← mul_lt_mul_iff_left₀ hunit', hscaled]
    exact_mod_cast hlt

theorem powerBound_madePower (x : Word) : PowerBound x (madePower x) := by
  unfold madePower
  split
  case isTrue hsmall =>
    refine ⟨by decide, by decide, fun hlow hup => ?_⟩
    have hin := (powerInRange_iff x).2 ⟨hlow, hup⟩
    simp only [powerInRange, Bool.and_eq_true, decide_eq_true_iff] at hin
    exact absurd hin.1 (not_le.2 hsmall)
  split
  case isTrue hlarge =>
    refine ⟨by decide, by decide, fun hlow hup => ?_⟩
    have hin := (powerInRange_iff x).2 ⟨hlow, hup⟩
    simp only [powerInRange, Bool.and_eq_true, decide_eq_true_iff] at hin
    exact absurd hin.2 (not_lt.2 hlarge)
  case isFalse hlow hup =>
    obtain ⟨hle, hlt⟩ := eighths_bounds x
    have hlow' := (le_fpRat_iff (-126) x).1 (not_lt.1 hlow)
    have hup' := (le_fpRat_iff 128 x).not.1 hup
    dsimp only
    generalize fpScaled x * 8 / (fpUnit : Int) = e at *
    have he1 : -1008 < e + 1 := by
      have : (-1008 : ℝ) < e + 1 := by push_cast at hlow'; linarith
      exact_mod_cast this
    have he2 : e < 1024 := by
      have : (e : ℝ) < 1024 := by push_cast at hup'; linarith
      exact_mod_cast this
    obtain ⟨n, j, hj, rfl⟩ : ∃ (n : Int) (j : Nat), j < 8 ∧ e = 8 * n + j := ⟨e / 8, (e % 8).toNat, by omega, by omega⟩
    have hdiv : (8 * n + j) / 8 = n := by omega
    have hmod : ((8 * n + j) % 8).toNat = j := by omega
    rw [hdiv, hmod]
    obtain ⟨hfinite, herr⟩ := roundNE_powerSixteenth hj (n := n) (by omega) (by omega)
    refine ⟨isNaN_roundNE _ _, ?_, fun _ _ => ⟨hfinite, (relative_error_le_iff (by positivity)).2 ?_⟩⟩
    · rw [fpSign_roundNE]
      exact decide_eq_false (not_lt.2 (Int.natCast_nonneg _))
    · have herr' := (Rat.cast_le (K := ℝ)).2 herr
      push_cast at herr' hle hlt ⊢
      exact bounds_of_near_eighth hj hle hlt herr'

/-- Settles O56: the exact powers are words; elsewhere the chosen word is within the bound of R346. -/
theorem powerOfTwoEstimate : Obligations.power_of_two_estimate := by
  intro s vd vb hvec
  refine ⟨_, drawsElements_writeVrDrawn (.inr (.inr rfl)) hvec vd _, fun k x _ hx => ?_⟩
  simp only [fpEstimate, flushedWord_eq_njWord, flushNJ_eq_njWord, ← hx]
  refine ⟨fun hnan => ?_, ?_, fun hzero => ?_, ?_, fun hfin hzero => ?_⟩
  · rw [fpPower, if_pos hnan]
    exact quietNaN_njWord (quietNaN_nanWord s _ _)
  · rintro rfl; exact njWord_zeroOf s false
  · rw [eq_zeroOf_of_isZero hzero]
    cases fpSign x with
    | false => exact njWord_eq_self s (w := 0x3F800000) (.inr (by decide))
    | true => exact njWord_eq_self s (w := 0x3F800000) (.inr (by decide))
  · rintro rfl; exact njWord_infOf s false
  · rw [isFinite_iff] at hfin
    have hnan : ¬isNaN x = true := by rw [isNaN_iff]; omega
    have hinf : ¬isInf x = true := by rw [isInf_iff]; omega
    refine ⟨_, rfl, ?_⟩
    rw [fpPower, if_neg hnan, if_neg (by simp [hzero]), if_neg hinf]
    by_cases hexact : isExactPower x = true
    · obtain ⟨n, hn, hlow, hup⟩ := (isExactPower_iff x).1 hexact
      have hdiv : fpScaled x / (fpUnit : Int) = n := by
        rw [(fpRat_eq_intCast_iff x n).1 hn, Int.mul_ediv_cancel _ (by exact_mod_cast fpUnit_pos.ne')]
      obtain ⟨hfinite, hsign, hrat⟩ := powerWord_spec hlow hup
      rw [if_pos hexact, hdiv]
      refine ⟨?_, hsign, fun _ _ => ⟨hfinite, ?_⟩, fun m hm _ _ => ⟨hfinite, ?_⟩⟩
      · rw [isFinite_iff] at hfinite
        rw [isNaN_eq_false_iff]
        omega
      · have hpower : (2 : ℝ) ^ (fpRat x : ℝ) = (fpRat (powerWord n) : ℝ) := by
          rw [hn, hrat, Rat.cast_intCast, Real.rpow_intCast]
          push_cast
          rfl
        rw [hpower, sub_self, abs_zero, zero_div]
        norm_num
      · rw [hrat, show n = m by exact_mod_cast hn.symm.trans hm]
    · rw [if_neg hexact]
      obtain ⟨hnan', hsign, hbound⟩ := chosenEstimate_prop (P := PowerBound x) (Config.est2Pow s.fresh k x)
        (fun r => powerBound_of_allowed) (powerBound_madePower x)
      exact ⟨hnan', hsign, hbound, fun n hn hlow hup => absurd ((isExactPower_iff x).2 ⟨n, hn, hlow, hup⟩) hexact⟩

end Sys2Proof.Proofs
end
